-- ==== Sys2Proof/Word.lean ====
section
/-! DEFINITION. The words of the block: 32-bit registers, 6-bit word addresses of the host port (R61), the 3-bit
immediate of a command word (R91). -/

namespace Sys2Proof

/-- A register of the block: 32 bits, read as signed or unsigned as its rule says (R10). -/
abbrev Word := BitVec 32

/-- A word address of the host port, `addr[5:0]` (R60, R61): there are 64 of them and nothing outside. -/
abbrev Addr := BitVec 6

/-- The immediate `idx` of a command word: three bits, never sign-extended (R91). -/
abbrev Idx := BitVec 3

end Sys2Proof
end

