-- ==== Sys2Proof/Config.lean ====
section
/-! DEFINITION. What a build of the block fixes (00_scope.md R7): the fixed parameters as constants, the OPEN ones as
the fields of `Build`. -/

namespace Sys2Proof.Config

/-- `MULT`, the multiplier of the FixedPoint scale (R7). -/
abbrev mult : Nat := 1000

/-- `INT_MAX`, the largest FixedPoint scalar (R7). -/
abbrev intMax : Int := 2147483647

/-- `INT_MIN`, the smallest FixedPoint scalar (R7). -/
abbrev intMin : Int := -2147483648

/-- `ERR_SUM_LIMIT`, the clamp of the PID integral (R7). -/
abbrev errSumLimit : Int := 1000000

/-- `N_PRIMARY`, the primary motor channels (R7). -/
abbrev nPrimary : Nat := 4

/-- `MAX_EXTRA`, the largest extra-channel count (R7). -/
abbrev maxExtra : Nat := 4

/-- `HAS_ATAN`: true for this hardware (R7, R94). -/
def hasAtan : Bool := true

/-- `HAS_ASIN`: true for this hardware (R7, R94). -/
def hasAsin : Bool := true

/-- The contents of a trigonometric table, a parameter "OPEN with the default of 42_trig_rom.md" (R7): the default
listing, or the entries a build was given, first entry first. -/
inductive Rom where
  | listing
  | entries (l : List Nat)
  deriving DecidableEq, Repr

/-- The OPEN parameters of R7: an argument of the model, fixed for one block. -/
structure Build where
  /-- `BASE_TICK`: timer ticks in half a millisecond (R7, R8). -/
  baseTick : Nat
  /-- `FRAME_TICKS`: the frame budget in ticks. -/
  frameTicks : Nat
  /-- `LEAD_TICKS`: what ESC.START adds to the timer. -/
  leadTicks : Nat
  /-- `T_SETTLE`: the settle delay with reset low, in ticks. -/
  tSettle : Nat
  /-- `T_PAD`: the delay between the clock and data edges, in ticks. -/
  tPad : Nat
  /-- `ATAN_ROM`. -/
  atanRom : Rom
  /-- `ASIN_ROM`. -/
  asinRom : Rom
  deriving DecidableEq, Repr

/-- The reference values of R7 and the default tables: the build the vectors of 95_test_vectors.md are for. -/
def Build.reference : Build :=
  { baseTick := 1000, frameTicks := 20000, leadTicks := 16, tSettle := 2, tPad := 1,
    atanRom := .listing, asinRom := .listing }

end Sys2Proof.Config
end

