-- ==== Sys2Proof/Syntax.lean ====
section
/-! DEFINITION. The commands of the block: one constructor per row of the opcode map (30_encoding.md R93). The operands
that are not in the command word are the ARG registers in the fixed assignment of 10_state.md R22. -/

namespace Sys2Proof

/-- A command. Its argument is the `idx` field as the word holds it (R91). -/
inductive Instr where
  /-- `NOP` (R96). -/
  | nop
  /-- `SMULDIV` (R112). -/
  | smuldiv
  /-- `ATAN2` (R131). -/
  | atan2
  /-- `ASIN` (R135). -/
  | asin
  /-- `PID.INIT c` (R161). -/
  | pidInit (c : Idx)
  /-- `PID.UPD c` (R162). -/
  | pidUpd (c : Idx)
  /-- `ESC.START` (R181). -/
  | escStart
  /-- `ESC.SAFE a` (R184). -/
  | escSafe (a : Idx)
  /-- `ESC.SETW ch` (R186). -/
  | escSetw (ch : Idx)
  /-- `ESC.TOTAL` (R187). -/
  | escTotal
  /-- `ESC.SETX n` (R188). -/
  | escSetx (n : Idx)
  /-- `ESC.ISDONE` (R189). -/
  | escIsdone
  /-- `ESC.CLRDONE` (R190). -/
  | escClrdone
  deriving DecidableEq, Repr

end Sys2Proof
end

