-- ==== Sys2Proof/WellFormed.lean ====
section
/-! DEFINITION. Which commands a command word can name: the legal encodings of `idx` (30_encoding.md R91) and the
optional paths (R94). -/

namespace Sys2Proof

/-- The command exists in this build and its `idx` is a legal encoding. -/
def Instr.wellFormed : Instr → Bool
  | .nop => true
  | .smuldiv => true
  | .atan2 => Config.hasAtan
  | .asin => Config.hasAsin
  | .pidInit c => decide (c.toNat < 4)
  | .pidUpd c => decide (c.toNat < 4)
  | .escStart => true
  | .escSafe a => decide (a.toNat < 2)
  | .escSetw _ => true
  | .escTotal => true
  | .escSetx _ => true
  | .escIsdone => true
  | .escClrdone => true

end Sys2Proof
end

