-- ==== Sys2Proof/Decode.lean ====
section
/-! DEFINITION. Decoding and encoding of the one command format, format C (30_encoding.md R90 to R95). Every word is
decoded: to a command, or to the reason why it is a reserved command word. -/

namespace Sys2Proof

/-- Why a word is a reserved command word: the three reasons R95 gives. -/
inductive Reserved where
  /-- A non-zero `zero` field. -/
  | nonzeroUpper
  /-- An undefined opcode. -/
  | undefinedOpcode (op : BitVec 8)
  /-- An `idx` outside the legal encodings of R91. -/
  | illegalIdx (op : BitVec 8) (idx : Idx)
  deriving DecidableEq, Repr

/-- The field `opcode`, bits 7:0 (R90). -/
def opcodeField (w : Word) : BitVec 8 := w.extractLsb' 0 8

/-- The field `idx`, bits 10:8 (R90, R91). -/
def idxField (w : Word) : Idx := w.extractLsb' 8 3

/-- The field `zero`, bits 31:11 (R90). -/
def zeroField (w : Word) : BitVec 21 := w.extractLsb' 11 21

/-- The opcode of a command, first column of the map (R93). -/
def opcodeOf : Instr → BitVec 8
  | .nop => 0x00
  | .smuldiv => 0x01
  | .atan2 => 0x02
  | .asin => 0x03
  | .pidInit _ => 0x10
  | .pidUpd _ => 0x11
  | .escStart => 0x20
  | .escSafe _ => 0x21
  | .escSetw _ => 0x22
  | .escTotal => 0x23
  | .escSetx _ => 0x24
  | .escIsdone => 0x25
  | .escClrdone => 0x26

/-- The immediate of a command, 0 for a command that takes none (R90, R91). -/
def idxOf : Instr → Idx
  | .nop => 0
  | .smuldiv => 0
  | .atan2 => 0
  | .asin => 0
  | .pidInit c => c
  | .pidUpd c => c
  | .escStart => 0
  | .escSafe a => a
  | .escSetw ch => ch
  | .escTotal => 0
  | .escSetx n => n
  | .escIsdone => 0
  | .escClrdone => 0

/-- The command of an opcode, given the `idx` field; none for an undefined opcode (R93, R95). -/
def commandOf (op : BitVec 8) (idx : Idx) : Option Instr :=
  match op.toNat with
  | 0x00 => some .nop
  | 0x01 => some .smuldiv
  | 0x02 => some .atan2
  | 0x03 => some .asin
  | 0x10 => some (.pidInit idx)
  | 0x11 => some (.pidUpd idx)
  | 0x20 => some .escStart
  | 0x21 => some (.escSafe idx)
  | 0x22 => some (.escSetw idx)
  | 0x23 => some .escTotal
  | 0x24 => some (.escSetx idx)
  | 0x25 => some .escIsdone
  | 0x26 => some .escClrdone
  | _ => none

/-- An opcode whose path this build leaves out is undefined (R94). -/
def opcodeLeftOut (i : Instr) : Bool :=
  match i with
  | .atan2 => !Config.hasAtan
  | .asin => !Config.hasAsin
  | _ => false

/-- Decode a command word (R90, R93, R95). -/
def decode (w : Word) : Except Reserved Instr :=
  if zeroField w ≠ 0 then .error .nonzeroUpper
  else
    match commandOf (opcodeField w) (idxField w) with
    | none => .error (.undefinedOpcode (opcodeField w))
    | some i =>
      if opcodeLeftOut i then .error (.undefinedOpcode (opcodeField w))
      else if idxOf i = idxField w ∧ i.wellFormed then .ok i
      else .error (.illegalIdx (opcodeField w) (idxField w))

/-- The word of format C with these fields (R90). -/
def formatC (op : BitVec 8) (idx : Idx) : Word := 0#21 ++ idx ++ op

/-- The command word of a command, `opcode + 256 x idx` (R90, R98). -/
def encode (i : Instr) : Word := formatC (opcodeOf i) (idxOf i)

/-- The column `match` of the opcode map (R93). -/
def matchOf : Instr → Word
  | .nop => 0x00000000
  | .smuldiv => 0x00000001
  | .atan2 => 0x00000002
  | .asin => 0x00000003
  | .pidInit _ => 0x00000010
  | .pidUpd _ => 0x00000011
  | .escStart => 0x00000020
  | .escSafe _ => 0x00000021
  | .escSetw _ => 0x00000022
  | .escTotal => 0x00000023
  | .escSetx _ => 0x00000024
  | .escIsdone => 0x00000025
  | .escClrdone => 0x00000026

/-- The column `mask` of the opcode map (R93). -/
def maskOf : Instr → Word
  | .nop => 0xFFFFFFFF
  | .smuldiv => 0xFFFFFFFF
  | .atan2 => 0xFFFFFFFF
  | .asin => 0xFFFFFFFF
  | .pidInit _ => 0xFFFFFCFF
  | .pidUpd _ => 0xFFFFFCFF
  | .escStart => 0xFFFFFFFF
  | .escSafe _ => 0xFFFFFEFF
  | .escSetw _ => 0xFFFFF8FF
  | .escTotal => 0xFFFFFFFF
  | .escSetx _ => 0xFFFFF8FF
  | .escIsdone => 0xFFFFFFFF
  | .escClrdone => 0xFFFFFFFF

/-- The word a command written as `nbits` table bits `w` is: the bits above `nbits` are 0. -/
def tableWord (nbits w : Nat) : Word := BitVec.ofNat 32 (w % 2 ^ nbits)

/-- The command the decoder reads from an instruction whose table bits are `w`; none for a reserved word. -/
def decodeTableWord (nbits w : Nat) : Option Instr :=
  match decode (tableWord nbits w) with
  | .ok i => some i
  | .error _ => none

end Sys2Proof
end

