-- ==== Sys2Proof/Machine/Arith.lean ====
section
/-! DEFINITION. The integer primitives of the spec (00_scope.md R11) and the block's one division (40_scaled_arith.md R111
to R115), on mathematical integers. -/

namespace Sys2Proof.Machine

/-- `clamp(v, lo, hi)` (R11). -/
def clamp (v lo hi : Int) : Int := min (max v lo) hi

/-- `sat32(v)` (R11). -/
def sat32 (v : Int) : Int := clamp v Config.intMin Config.intMax

/-- `tdiv(a, b)`, integer division truncating toward zero (R11). -/
def tdiv (a b : Int) : Int := Int.tdiv a b

/-- `rdiv(p, d)`, the rounding division, for `d` not 0 (R111). -/
def rdiv (p d : Int) : Int := tdiv (p + tdiv d 2) d

/-- `scaled_mul_div(v, n, d)` with its saturation and its rule for a zero divisor (R112). -/
def scaledMulDiv (v n d : Int) : Int :=
  let p := v * n
  if d = 0 then
    if p > 0 then Config.intMax else if p < 0 then Config.intMin else 0
  else sat32 (rdiv p d)

/-- The pattern a signed register holds for a value (R10). -/
def signedWord (v : Int) : Word := BitVec.ofInt 32 v

end Sys2Proof.Machine
end

