-- ==== Sys2Proof/Machine/State.lean ====
section
/-! DEFINITION. The state of the block: every element of 10_state.md, the host port's side (20_memory.md), and its reset
value (R45). Plain data. -/

namespace Sys2Proof.Machine

/-- `seq_phase`, the phase of the reset-sequence engine (R38). -/
inductive SeqPhase where
  | idle
  | settle
  | pad1
  | pad2
  | pad3
  deriving DecidableEq, Repr

/-- One input of the block (R236: the host port, the timer clock and reset), in the order the outside world gives them
(R73). -/
inductive Input where
  /-- A TICK step (R220). -/
  | tick
  /-- `MemRead(addr, 4)` (R62). -/
  | read (addr : Addr)
  /-- `MemWrite(addr, 4, v)` (R63). -/
  | write (addr : Addr) (v : Word)
  /-- The reset input (R236, R250). -/
  | reset
  deriving DecidableEq, Repr

/-- Everything the spec gives the block, with the build it belongs to and the inputs still to come. -/
structure State where
  /-- The OPEN parameters of R7: no state of the block (R43), never written by a step. -/
  build : Config.Build
  /-- `ARG[0]` .. `ARG[4]` (R20). -/
  args : Vector Word 5
  /-- `RESULT` (R21). -/
  result : Word
  /-- `err_sum[0]` .. `err_sum[3]` (R29). -/
  errSum : Vector Word 4
  /-- `err_last[0]` .. `err_last[3]` (R29). -/
  errLast : Vector Word 4
  /-- `width[0]` .. `width[7]` (R30). -/
  width : Vector Word 8
  /-- `channel_index` (R31). -/
  channelIndex : BitVec 4
  /-- `elapsed` (R32). -/
  elapsed : Word
  /-- `done_flag` (R25). -/
  doneFlag : Bool
  /-- `safety_armed` (R26). -/
  safetyArmed : Bool
  /-- `extra` (R33). -/
  extra : BitVec 3
  /-- `seq_run` (R37). -/
  seqRun : Bool
  /-- `seq_phase` (R38). -/
  seqPhase : SeqPhase
  /-- `seq_wait` (R38). -/
  seqWait : Nat
  /-- `timer` (R34). -/
  timer : Word
  /-- `compare` (R35). -/
  compare : Word
  /-- Pin `ESC_OUT` (R36). -/
  escOut : Bool
  /-- Pin `SR_DATA` (R36). -/
  srData : Bool
  /-- Pin `SR_CLK` (R36). -/
  srClk : Bool
  /-- Pin `SR_RST`, active low (R36). -/
  srRst : Bool
  /-- Port signal `rdata`: the word the last read transaction returned (R61, R62). -/
  rdata : Word
  /-- The inputs still to come, the next one first: the total order of HOST and TICK steps (R73). -/
  inbox : List Input
  deriving DecidableEq, Repr

/-- Why the machine stops. The spec's block never stops (R210). -/
inductive Fault where
  /-- Raised by the compare-match transition when `channel_index` is 8 or more, where there is no width to read
  (R225, R257). No run from reset reaches it. Safe: the model stops where the spec gives no value. -/
  | noSuchWidth
  deriving DecidableEq, Repr

/-- Why an instruction has no meaning in the model. -/
inductive Refusal where
  /-- Raised by an arm of `exec` whose instruction has no meaning yet; no arm raises it. Safe: no claim is made. -/
  | notModelled (mnemonic : String)
  deriving DecidableEq, Repr

/-- The reset state of a block of build `b`: the table of R45. -/
def State.resetOf (b : Config.Build) : State :=
  { build := b
    args := Vector.replicate 5 0
    result := 0
    errSum := Vector.replicate 4 0
    errLast := Vector.replicate 4 0
    width := Vector.replicate 8 (BitVec.ofNat 32 (2 * b.baseTick))
    channelIndex := 0
    elapsed := 0
    doneFlag := false
    safetyArmed := false
    extra := 0
    seqRun := false
    seqPhase := .idle
    seqWait := 0
    timer := 0
    compare := 0
    escOut := false
    srData := false
    srClk := false
    srRst := false
    rdata := 0
    inbox := [] }

/-- The machine right after reset, of the reference build (R7, R45). -/
def State.reset : State := State.resetOf Config.Build.reference

end Sys2Proof.Machine
end

