-- ==== Sys2Proof/Machine/Flags.lean ====
section
/-! DEFINITION. The flags that are computed, not stored: `busy` (10_state.md R38) and the word STATUS (R40). There are no
arithmetic condition flags (R27). -/

namespace Sys2Proof.Machine

/-- `busy`: 1 exactly when `seq_phase` is not IDLE (R38). -/
def busy (s : State) : Bool := decide (s.seqPhase ≠ .idle)

/-- The number of a phase, as STATUS shows it (R38, R40). -/
def phaseCode : SeqPhase → BitVec 3
  | .idle => 0
  | .settle => 1
  | .pad1 => 2
  | .pad2 => 3
  | .pad3 => 4

/-- The word STATUS, the field of bits 31:19 first (R40). -/
def statusWord (s : State) : Word :=
  0#13 ++ phaseCode s.seqPhase ++ BitVec.ofBool s.srRst ++ BitVec.ofBool s.srClk ++ BitVec.ofBool s.srData ++
    BitVec.ofBool s.escOut ++ s.channelIndex ++ 0#1 ++ s.extra ++ BitVec.ofBool s.seqRun ++ BitVec.ofBool (busy s) ++
    BitVec.ofBool s.safetyArmed ++ BitVec.ofBool s.doneFlag

end Sys2Proof.Machine
end

