-- ==== Sys2Proof/Machine/Operands.lean ====
section
/-! DEFINITION. The operands of a command: the ARG registers, read as signed (10_state.md R22, R10), and the uses of the
`idx` field (30_encoding.md R91). -/

namespace Sys2Proof.Machine

/-- `ARG[i]` as a signed 32-bit value (R11, R20). -/
def argInt (s : State) (i : Fin 5) : Int := (s.args[i]).toInt

/-- The PID context an `idx` names; 4..7 name none (R91). -/
def contextOf (idx : Idx) : Option (Fin 4) :=
  if h : idx.toNat < 4 then some ⟨idx.toNat, h⟩ else none

/-- The armed bit of ESC.SAFE; 2..7 are no encodings of it (R91). -/
def armedOf (idx : Idx) : Option Bool :=
  if idx.toNat = 0 then some false else if idx.toNat = 1 then some true else none

/-- The channel of ESC.SETW: every `idx` names one (R91). -/
def channelOf (idx : Idx) : Fin 8 := ⟨idx.toNat, idx.isLt⟩

/-- The extra-channel count of ESC.SETX: a request above `MAX_EXTRA` is clamped to it (R91, R188). -/
def extraOf (idx : Idx) : BitVec 3 := BitVec.ofNat 3 (min idx.toNat Config.maxExtra)

end Sys2Proof.Machine
end

