-- ==== Sys2Proof/Machine/Ops.lean ====
section
/-! DEFINITION. The named operations over the state: register writes, the host's read of a register (20_memory.md R64),
the reset-sequence engine and the compare-match transition that make up the TICK step (60_exceptions.md R220 to R231).
The block has no exception and no trap entry (R210, R233); the compare-match transition is the whole of what the
document's interrupt handler does. -/

namespace Sys2Proof.Machine

/-! ### Register writes -/

/-- `ARG[i] <- v`, the 32-bit pattern (R63). -/
def writeArg (s : State) (i : Fin 5) (v : Word) : State := { s with args := s.args.set i v }

/-- `RESULT <- v` (R11, R21). -/
def writeResult (s : State) (v : Int) : State := { s with result := signedWord v }

/-- `err_sum[c] <- es; err_last[c] <- el` (R29). -/
def writeContext (s : State) (c : Fin 4) (es el : Int) : State :=
  { s with errSum := s.errSum.set c (signedWord es), errLast := s.errLast.set c (signedWord el) }

/-- `width[ch] <- v` (R30). -/
def writeWidth (s : State) (ch : Fin 8) (v : Int) : State := { s with width := s.width.set ch (signedWord v) }

/-! ### The register map -/

/-- The word a host read of address `a` returns: the register map of R64; CMD and every reserved address read 0 (R41,
R66). -/
def portRead (s : State) (a : Addr) : Word :=
  if h : a.toNat < 5 then s.args[a.toNat]
  else if a.toNat = 0x05 then s.result
  else if a.toNat = 0x07 then statusWord s
  else if a.toNat = 0x08 then s.timer
  else if a.toNat = 0x09 then s.compare
  else if a.toNat = 0x0A then s.elapsed
  else if h : 0x10 ≤ a.toNat ∧ a.toNat < 0x18 then s.width[a.toNat - 0x10]
  else if h : 0x20 ≤ a.toNat ∧ a.toNat < 0x24 then s.errSum[a.toNat - 0x20]
  else if h : 0x28 ≤ a.toNat ∧ a.toNat < 0x2C then s.errLast[a.toNat - 0x28]
  else 0

/-! ### The TICK step -/

/-- Part (1) of a TICK step: the timer (R220). -/
def timerStep (s : State) : State := { s with timer := s.timer + 1 }

/-- The action of the current phase of the reset sequence (R228 to R231). -/
def phaseAction (s : State) : State :=
  match s.seqPhase with
  | .idle => s
  | .settle =>
    { s with srRst := if s.safetyArmed then true else s.srRst, srData := true, seqPhase := .pad1,
             seqWait := s.build.tPad }
  | .pad1 => { s with srClk := true, seqPhase := .pad2, seqWait := s.build.tPad }
  | .pad2 => { s with srClk := false, seqPhase := .pad3, seqWait := s.build.tPad }
  | .pad3 => { s with srData := false, seqPhase := .idle }

/-- One count of the reset-sequence engine's down-counter (R220). -/
def countDown (s : State) : State := { s with seqWait := s.seqWait - 1 }

/-- Part (2) of a TICK step: the reset-sequence engine (R220, R227). -/
def engineStep (s : State) : State :=
  if s.seqPhase = .idle then s
  else if (countDown s).seqWait = 0 then phaseAction (countDown s)
  else countDown s

/-- A compare match: the timer, as just written, equals the compare register, and a frame runs (R221). -/
def compareDue (s : State) : Bool := s.seqRun && decide (s.timer = s.compare)

/-- What every compare match does, with `w` the width of the current channel: toggle, advance compare, elapsed and the
channel index (R223). -/
def advanceChannel (s : State) (w : Word) : State :=
  { s with escOut := !s.escOut, compare := s.compare + w, elapsed := s.elapsed + w,
           channelIndex := s.channelIndex + 1 }

/-- The number of active channels, `4 + extra` (R33). -/
def activeChannels (s : State) : Nat := Config.nPrimary + s.extra.toNat

/-- What follows when the index has reached the active channel count: the terminal state when the frame budget is
exceeded (R224), else the index stepped back so that the last channel repeats (R223). -/
def endOrRepeat (s : State) : State :=
  if s.elapsed.toNat > s.build.frameTicks then { s with doneFlag := true, seqRun := false }
  else { s with channelIndex := s.channelIndex - 1 }

/-- The compare-match transition with the current channel's width `w` (R223). -/
def transition (s : State) (w : Word) : State :=
  if (advanceChannel s w).channelIndex.toNat ≥ activeChannels s then endOrRepeat (advanceChannel s w)
  else advanceChannel s w

/-- The compare-match transition: it reads `width[channel_index]`, which exists for an index of at most 7 (R223,
R225). -/
def compareMatch (s : State) : Host.Outcome State Fault Refusal :=
  if h : s.channelIndex.toNat < 8 then .next (transition s s.width[s.channelIndex.toNat])
  else .fault .noSuchWidth

/-- Part (3) of a TICK step: the compare match, when it is due (R220). -/
def matchStep (s : State) : Host.Outcome State Fault Refusal :=
  if compareDue s then compareMatch s else .next s

/-- One TICK step: timer, engine, compare match, in this order (R220). -/
def tickStep (s : State) : Host.Outcome State Fault Refusal := matchStep (engineStep (timerStep s))

end Sys2Proof.Machine
end

