-- ==== Sys2Proof/Machine/Esc.lean ====
section
/-! DEFINITION. The meanings of the ESC commands (44_esc.md R181 to R190). -/

namespace Sys2Proof.Machine

/-- What ESC.START writes (R181). -/
def startFrame (s : State) : State :=
  { s with compare := s.timer + BitVec.ofNat 32 s.build.leadTicks, channelIndex := 0, elapsed := 0, doneFlag := false,
           seqRun := true, srRst := false, seqPhase := .settle, seqWait := s.build.tSettle }

/-- ESC.START (R181). -/
def execEscStart (s : State) : Host.Outcome State Fault Refusal := .next (startFrame s)

/-- `safety_armed <- a; if a == 0 then SR_RST <- 0` (R184). -/
def setSafety (a : Bool) (s : State) : State :=
  { s with safetyArmed := a, srRst := if a then s.srRst else false }

/-- ESC.SAFE a; an `idx` of 2..7 changes nothing (R184, R185). -/
def execEscSafe (a : Idx) (s : State) : Host.Outcome State Fault Refusal :=
  match armedOf a with
  | some armed => .next (setSafety armed s)
  | none => .next s

/-- The width ESC.SETW stores for a request of `ticks` (R186). -/
def clampWidth (b : Config.Build) (ticks : Int) : Int := clamp ticks (2 * b.baseTick) (4 * b.baseTick)

/-- ESC.SETW ch: ticks in ARG0, read as signed (R186). -/
def execEscSetw (ch : Idx) (s : State) : Host.Outcome State Fault Refusal :=
  .next (writeWidth s (channelOf ch) (clampWidth s.build (argInt s 0)))

/-- The sum of the widths of the active channels (R187). -/
def totalWidth (s : State) : Nat := ((s.width.toList.take (activeChannels s)).map BitVec.toNat).sum

/-- ESC.TOTAL (R187). -/
def execEscTotal (s : State) : Host.Outcome State Fault Refusal := .next (writeResult s (totalWidth s))

/-- ESC.SETX n (R188). -/
def execEscSetx (n : Idx) (s : State) : Host.Outcome State Fault Refusal := .next { s with extra := extraOf n }

/-- ESC.ISDONE (R189). -/
def execEscIsdone (s : State) : Host.Outcome State Fault Refusal := .next (writeResult s s.doneFlag.toNat)

/-- ESC.CLRDONE (R190). -/
def execEscClrdone (s : State) : Host.Outcome State Fault Refusal := .next { s with doneFlag := false }

end Sys2Proof.Machine
end

