-- ==== Sys2Proof/Machine/Pid.lean ====
section
/-! DEFINITION. The meanings of PID.INIT and PID.UPD (43_pid.md R161, R162). -/

namespace Sys2Proof.Machine

/-- PID.INIT c: both fields of context c to 0; an `idx` of 4..7 changes nothing (R161). -/
def execPidInit (c : Idx) (s : State) : Host.Outcome State Fault Refusal :=
  match contextOf c with
  | some k => .next (writeContext s k 0 0)
  | none => .next s

/-- Line (1) of R162: the saturated error (R165). -/
def pidError (cur tgt : Int) : Int := sat32 (tgt - cur)

/-- Line (2) of R162: the accumulated and clamped integral (R166). -/
def pidIntegral (es err : Int) : Int := clamp (es + err) (-Config.errSumLimit) Config.errSumLimit

/-- Lines (3) and (4) of R162: the exact weighted sum, with the updated integral `es` and the previous error `el` (R167,
R168). -/
def pidSum (kp ki kd err es el : Int) : Int := err * kp + es * ki + (err - el) * kd

/-- Line (5) of R162: the sum rescaled, `scaled_mul_div(S, 1, MULT)` (R119). -/
def pidOutput (sum : Int) : Int := scaledMulDiv sum 1 Config.mult

/-- PID.UPD on context c: gains ARG0 to ARG2, current ARG3, target ARG4 (R162). -/
def pidUpdate (c : Fin 4) (s : State) : State :=
  let err := pidError (argInt s 3) (argInt s 4)
  let es := pidIntegral (s.errSum[c]).toInt err
  writeContext
    (writeResult s (pidOutput (pidSum (argInt s 0) (argInt s 1) (argInt s 2) err es (s.errLast[c]).toInt)))
    c es err

/-- PID.UPD c; an `idx` of 4..7 changes nothing (R162, R170). -/
def execPidUpd (c : Idx) (s : State) : Host.Outcome State Fault Refusal :=
  match contextOf c with
  | some k => .next (pidUpdate k s)
  | none => .next s

end Sys2Proof.Machine
end

