-- ==== Sys2Proof/Machine/Scaled.lean ====
section
/-! DEFINITION. The meanings of NOP (30_encoding.md R96) and SMULDIV (40_scaled_arith.md R112). -/

namespace Sys2Proof.Machine

/-- NOP: no state changes (R96). -/
def execNop (s : State) : Host.Outcome State Fault Refusal := .next s

/-- SMULDIV: value ARG0, numerator ARG1, denominator ARG2 (R112). -/
def execSmuldiv (s : State) : Host.Outcome State Fault Refusal :=
  .next (writeResult s (scaledMulDiv (argInt s 0) (argInt s 1) (argInt s 2)))

end Sys2Proof.Machine
end

