-- ==== Sys2Proof/Machine/Rom.lean ====
section
/-! DEFINITION. The two read-only tables (41_trig.md R130, 42_trig_rom.md R150 to R153): the default listings and the
lookup. Each listing is joined from pieces of a hundred entries, ten to a line as the spec prints them. -/

namespace Sys2Proof.Machine

/-- `ATAN_ROM`, entries 0 to 99 (R152). -/
def atanPiece0 : List Nat :=
  [0, 57, 115, 172, 229, 286, 344, 401, 458, 516] ++
  [573, 630, 688, 745, 802, 859, 917, 974, 1031, 1088] ++
  [1146, 1203, 1260, 1318, 1375, 1432, 1489, 1547, 1604, 1661] ++
  [1718, 1776, 1833, 1890, 1947, 2005, 2062, 2119, 2176, 2233] ++
  [2291, 2348, 2405, 2462, 2519, 2577, 2634, 2691, 2748, 2805] ++
  [2862, 2920, 2977, 3034, 3091, 3148, 3205, 3262, 3319, 3377] ++
  [3434, 3491, 3548, 3605, 3662, 3719, 3776, 3833, 3890, 3947] ++
  [4004, 4061, 4118, 4175, 4232, 4289, 4346, 4403, 4460, 4517] ++
  [4574, 4631, 4688, 4745, 4802, 4858, 4915, 4972, 5029, 5086] ++
  [5143, 5200, 5256, 5313, 5370, 5427, 5484, 5540, 5597, 5654]

/-- `ATAN_ROM`, entries 100 to 199 (R152). -/
def atanPiece100 : List Nat :=
  [5711, 5767, 5824, 5881, 5937, 5994, 6051, 6107, 6164, 6221] ++
  [6277, 6334, 6390, 6447, 6504, 6560, 6617, 6673, 6730, 6786] ++
  [6843, 6899, 6956, 7012, 7069, 7125, 7181, 7238, 7294, 7351] ++
  [7407, 7463, 7520, 7576, 7632, 7688, 7745, 7801, 7857, 7913] ++
  [7970, 8026, 8082, 8138, 8194, 8250, 8306, 8363, 8419, 8475] ++
  [8531, 8587, 8643, 8699, 8755, 8811, 8867, 8923, 8979, 9034] ++
  [9090, 9146, 9202, 9258, 9314, 9369, 9425, 9481, 9537, 9592] ++
  [9648, 9704, 9759, 9815, 9871, 9926, 9982, 10037, 10093, 10148] ++
  [10204, 10259, 10315, 10370, 10426, 10481, 10537, 10592, 10647, 10703] ++
  [10758, 10813, 10869, 10924, 10979, 11034, 11089, 11145, 11200, 11255]

/-- `ATAN_ROM`, entries 200 to 299 (R152). -/
def atanPiece200 : List Nat :=
  [11310, 11365, 11420, 11475, 11530, 11585, 11640, 11695, 11750, 11805] ++
  [11860, 11915, 11969, 12024, 12079, 12134, 12189, 12243, 12298, 12353] ++
  [12407, 12462, 12517, 12571, 12626, 12680, 12735, 12789, 12844, 12898] ++
  [12953, 13007, 13062, 13116, 13170, 13225, 13279, 13333, 13387, 13442] ++
  [13496, 13550, 13604, 13658, 13712, 13766, 13820, 13874, 13928, 13982] ++
  [14036, 14090, 14144, 14198, 14252, 14306, 14359, 14413, 14467, 14521] ++
  [14574, 14628, 14681, 14735, 14789, 14842, 14896, 14949, 15003, 15056] ++
  [15110, 15163, 15216, 15270, 15323, 15376, 15430, 15483, 15536, 15589] ++
  [15642, 15695, 15748, 15802, 15855, 15908, 15961, 16013, 16066, 16119] ++
  [16172, 16225, 16278, 16331, 16383, 16436, 16489, 16541, 16594, 16647]

/-- `ATAN_ROM`, entries 300 to 399 (R152). -/
def atanPiece300 : List Nat :=
  [16699, 16752, 16804, 16857, 16909, 16962, 17014, 17066, 17119, 17171] ++
  [17223, 17276, 17328, 17380, 17432, 17484, 17537, 17589, 17641, 17693] ++
  [17745, 17797, 17849, 17900, 17952, 18004, 18056, 18108, 18159, 18211] ++
  [18263, 18315, 18366, 18418, 18469, 18521, 18572, 18624, 18675, 18727] ++
  [18778, 18829, 18881, 18932, 18983, 19034, 19086, 19137, 19188, 19239] ++
  [19290, 19341, 19392, 19443, 19494, 19545, 19596, 19647, 19697, 19748] ++
  [19799, 19850, 19900, 19951, 20002, 20052, 20103, 20153, 20204, 20254] ++
  [20304, 20355, 20405, 20456, 20506, 20556, 20606, 20656, 20707, 20757] ++
  [20807, 20857, 20907, 20957, 21007, 21057, 21107, 21156, 21206, 21256] ++
  [21306, 21355, 21405, 21455, 21504, 21554, 21604, 21653, 21703, 21752]

/-- `ATAN_ROM`, entries 400 to 499 (R152). -/
def atanPiece400 : List Nat :=
  [21801, 21851, 21900, 21949, 21999, 22048, 22097, 22146, 22195, 22245] ++
  [22294, 22343, 22392, 22441, 22490, 22538, 22587, 22636, 22685, 22734] ++
  [22782, 22831, 22880, 22928, 22977, 23025, 23074, 23122, 23171, 23219] ++
  [23268, 23316, 23364, 23413, 23461, 23509, 23557, 23605, 23653, 23701] ++
  [23749, 23797, 23845, 23893, 23941, 23989, 24037, 24085, 24132, 24180] ++
  [24228, 24275, 24323, 24371, 24418, 24466, 24513, 24560, 24608, 24655] ++
  [24702, 24750, 24797, 24844, 24891, 24938, 24986, 25033, 25080, 25127] ++
  [25174, 25220, 25267, 25314, 25361, 25408, 25454, 25501, 25548, 25594] ++
  [25641, 25688, 25734, 25781, 25827, 25873, 25920, 25966, 26012, 26059] ++
  [26105, 26151, 26197, 26243, 26289, 26335, 26381, 26427, 26473, 26519]

/-- `ATAN_ROM`, entries 500 to 599 (R152). -/
def atanPiece500 : List Nat :=
  [26565, 26611, 26657, 26702, 26748, 26794, 26839, 26885, 26931, 26976] ++
  [27022, 27067, 27112, 27158, 27203, 27248, 27294, 27339, 27384, 27429] ++
  [27474, 27520, 27565, 27610, 27655, 27699, 27744, 27789, 27834, 27879] ++
  [27924, 27968, 28013, 28058, 28102, 28147, 28191, 28236, 28280, 28325] ++
  [28369, 28413, 28458, 28502, 28546, 28590, 28635, 28679, 28723, 28767] ++
  [28811, 28855, 28899, 28943, 28986, 29030, 29074, 29118, 29162, 29205] ++
  [29249, 29292, 29336, 29380, 29423, 29466, 29510, 29553, 29597, 29640] ++
  [29683, 29726, 29770, 29813, 29856, 29899, 29942, 29985, 30028, 30071] ++
  [30114, 30157, 30199, 30242, 30285, 30328, 30370, 30413, 30456, 30498] ++
  [30541, 30583, 30626, 30668, 30710, 30753, 30795, 30837, 30879, 30922]

/-- `ATAN_ROM`, entries 600 to 699 (R152). -/
def atanPiece600 : List Nat :=
  [30964, 31006, 31048, 31090, 31132, 31174, 31216, 31258, 31300, 31341] ++
  [31383, 31425, 31467, 31508, 31550, 31592, 31633, 31675, 31716, 31758] ++
  [31799, 31840, 31882, 31923, 31964, 32005, 32047, 32088, 32129, 32170] ++
  [32211, 32252, 32293, 32334, 32375, 32416, 32456, 32497, 32538, 32579] ++
  [32619, 32660, 32700, 32741, 32782, 32822, 32862, 32903, 32943, 32984] ++
  [33024, 33064, 33104, 33145, 33185, 33225, 33265, 33305, 33345, 33385] ++
  [33425, 33465, 33505, 33544, 33584, 33624, 33664, 33703, 33743, 33783] ++
  [33822, 33862, 33901, 33941, 33980, 34019, 34059, 34098, 34137, 34177] ++
  [34216, 34255, 34294, 34333, 34372, 34411, 34450, 34489, 34528, 34567] ++
  [34606, 34644, 34683, 34722, 34761, 34799, 34838, 34876, 34915, 34954]

/-- `ATAN_ROM`, entries 700 to 799 (R152). -/
def atanPiece700 : List Nat :=
  [34992, 35030, 35069, 35107, 35146, 35184, 35222, 35260, 35298, 35337] ++
  [35375, 35413, 35451, 35489, 35527, 35565, 35603, 35641, 35678, 35716] ++
  [35754, 35792, 35829, 35867, 35905, 35942, 35980, 36017, 36055, 36092] ++
  [36129, 36167, 36204, 36241, 36279, 36316, 36353, 36390, 36427, 36464] ++
  [36501, 36538, 36575, 36612, 36649, 36686, 36723, 36760, 36796, 36833] ++
  [36870, 36907, 36943, 36980, 37016, 37053, 37089, 37126, 37162, 37198] ++
  [37235, 37271, 37307, 37344, 37380, 37416, 37452, 37488, 37524, 37560] ++
  [37596, 37632, 37668, 37704, 37740, 37776, 37811, 37847, 37883, 37919] ++
  [37954, 37990, 38025, 38061, 38096, 38132, 38167, 38203, 38238, 38273] ++
  [38309, 38344, 38379, 38414, 38450, 38485, 38520, 38555, 38590, 38625]

/-- `ATAN_ROM`, entries 800 to 899 (R152). -/
def atanPiece800 : List Nat :=
  [38660, 38695, 38730, 38764, 38799, 38834, 38869, 38904, 38938, 38973] ++
  [39007, 39042, 39077, 39111, 39146, 39180, 39214, 39249, 39283, 39317] ++
  [39352, 39386, 39420, 39454, 39489, 39523, 39557, 39591, 39625, 39659] ++
  [39693, 39727, 39760, 39794, 39828, 39862, 39896, 39929, 39963, 39997] ++
  [40030, 40064, 40097, 40131, 40164, 40198, 40231, 40265, 40298, 40331] ++
  [40365, 40398, 40431, 40464, 40497, 40530, 40564, 40597, 40630, 40663] ++
  [40696, 40728, 40761, 40794, 40827, 40860, 40893, 40925, 40958, 40991] ++
  [41023, 41056, 41088, 41121, 41153, 41186, 41218, 41251, 41283, 41315] ++
  [41348, 41380, 41412, 41445, 41477, 41509, 41541, 41573, 41605, 41637] ++
  [41669, 41701, 41733, 41765, 41797, 41829, 41860, 41892, 41924, 41956]

/-- `ATAN_ROM`, entries 900 to 999 (R152). -/
def atanPiece900 : List Nat :=
  [41987, 42019, 42050, 42082, 42114, 42145, 42177, 42208, 42239, 42271] ++
  [42302, 42334, 42365, 42396, 42427, 42459, 42490, 42521, 42552, 42583] ++
  [42614, 42645, 42676, 42707, 42738, 42769, 42800, 42831, 42861, 42892] ++
  [42923, 42954, 42984, 43015, 43045, 43076, 43107, 43137, 43168, 43198] ++
  [43229, 43259, 43289, 43320, 43350, 43380, 43410, 43441, 43471, 43501] ++
  [43531, 43561, 43591, 43621, 43651, 43681, 43711, 43741, 43771, 43801] ++
  [43831, 43861, 43890, 43920, 43950, 43980, 44009, 44039, 44068, 44098] ++
  [44128, 44157, 44187, 44216, 44245, 44275, 44304, 44333, 44363, 44392] ++
  [44421, 44450, 44480, 44509, 44538, 44567, 44596, 44625, 44654, 44683] ++
  [44712, 44741, 44770, 44799, 44828, 44856, 44885, 44914, 44943, 44971]

/-- The default contents of `ATAN_ROM` (R152). -/
def atanListing : List Nat :=
  atanPiece0 ++ atanPiece100 ++ atanPiece200 ++ atanPiece300 ++
  atanPiece400 ++ atanPiece500 ++ atanPiece600 ++ atanPiece700 ++
  atanPiece800 ++ atanPiece900 ++ [45000]

/-- `ASIN_ROM`, entries 0 to 99 (R153). -/
def asinPiece0 : List Nat :=
  [0, 57, 115, 172, 229, 286, 344, 401, 458, 516] ++
  [573, 630, 688, 745, 802, 859, 917, 974, 1031, 1089] ++
  [1146, 1203, 1261, 1318, 1375, 1433, 1490, 1547, 1604, 1662] ++
  [1719, 1776, 1834, 1891, 1948, 2006, 2063, 2120, 2178, 2235] ++
  [2292, 2350, 2407, 2464, 2522, 2579, 2637, 2694, 2751, 2809] ++
  [2866, 2923, 2981, 3038, 3095, 3153, 3210, 3268, 3325, 3382] ++
  [3440, 3497, 3555, 3612, 3669, 3727, 3784, 3842, 3899, 3957] ++
  [4014, 4071, 4129, 4186, 4244, 4301, 4359, 4416, 4474, 4531] ++
  [4589, 4646, 4704, 4761, 4819, 4876, 4934, 4991, 5049, 5106] ++
  [5164, 5221, 5279, 5336, 5394, 5451, 5509, 5566, 5624, 5682]

/-- `ASIN_ROM`, entries 100 to 199 (R153). -/
def asinPiece100 : List Nat :=
  [5739, 5797, 5854, 5912, 5970, 6027, 6085, 6142, 6200, 6258] ++
  [6315, 6373, 6431, 6488, 6546, 6604, 6661, 6719, 6777, 6834] ++
  [6892, 6950, 7008, 7065, 7123, 7181, 7239, 7296, 7354, 7412] ++
  [7470, 7527, 7585, 7643, 7701, 7759, 7816, 7874, 7932, 7990] ++
  [8048, 8106, 8164, 8221, 8279, 8337, 8395, 8453, 8511, 8569] ++
  [8627, 8685, 8743, 8801, 8859, 8917, 8975, 9033, 9091, 9149] ++
  [9207, 9265, 9323, 9381, 9439, 9497, 9555, 9613, 9672, 9730] ++
  [9788, 9846, 9904, 9962, 10020, 10079, 10137, 10195, 10253, 10312] ++
  [10370, 10428, 10486, 10545, 10603, 10661, 10719, 10778, 10836, 10894] ++
  [10953, 11011, 11070, 11128, 11186, 11245, 11303, 11362, 11420, 11478]

/-- `ASIN_ROM`, entries 200 to 299 (R153). -/
def asinPiece200 : List Nat :=
  [11537, 11595, 11654, 11712, 11771, 11829, 11888, 11947, 12005, 12064] ++
  [12122, 12181, 12240, 12298, 12357, 12416, 12474, 12533, 12592, 12650] ++
  [12709, 12768, 12827, 12885, 12944, 13003, 13062, 13121, 13179, 13238] ++
  [13297, 13356, 13415, 13474, 13533, 13592, 13651, 13710, 13769, 13828] ++
  [13887, 13946, 14005, 14064, 14123, 14182, 14241, 14300, 14359, 14418] ++
  [14478, 14537, 14596, 14655, 14714, 14774, 14833, 14892, 14951, 15011] ++
  [15070, 15129, 15189, 15248, 15308, 15367, 15426, 15486, 15545, 15605] ++
  [15664, 15724, 15783, 15843, 15902, 15962, 16022, 16081, 16141, 16201] ++
  [16260, 16320, 16380, 16439, 16499, 16559, 16619, 16678, 16738, 16798] ++
  [16858, 16918, 16978, 17038, 17098, 17158, 17218, 17278, 17338, 17398]

/-- `ASIN_ROM`, entries 300 to 399 (R153). -/
def asinPiece300 : List Nat :=
  [17458, 17518, 17578, 17638, 17698, 17758, 17818, 17879, 17939, 17999] ++
  [18059, 18120, 18180, 18240, 18300, 18361, 18421, 18482, 18542, 18602] ++
  [18663, 18723, 18784, 18844, 18905, 18966, 19026, 19087, 19147, 19208] ++
  [19269, 19329, 19390, 19451, 19512, 19573, 19633, 19694, 19755, 19816] ++
  [19877, 19938, 19999, 20060, 20121, 20182, 20243, 20304, 20365, 20426] ++
  [20487, 20548, 20610, 20671, 20732, 20793, 20855, 20916, 20977, 21039] ++
  [21100, 21162, 21223, 21285, 21346, 21408, 21469, 21531, 21592, 21654] ++
  [21716, 21777, 21839, 21901, 21963, 22024, 22086, 22148, 22210, 22272] ++
  [22334, 22396, 22458, 22520, 22582, 22644, 22706, 22768, 22830, 22892] ++
  [22954, 23017, 23079, 23141, 23204, 23266, 23328, 23391, 23453, 23516]

/-- `ASIN_ROM`, entries 400 to 499 (R153). -/
def asinPiece400 : List Nat :=
  [23578, 23641, 23703, 23766, 23828, 23891, 23954, 24017, 24079, 24142] ++
  [24205, 24268, 24331, 24393, 24456, 24519, 24582, 24645, 24708, 24771] ++
  [24835, 24898, 24961, 25024, 25087, 25151, 25214, 25277, 25341, 25404] ++
  [25468, 25531, 25595, 25658, 25722, 25785, 25849, 25913, 25976, 26040] ++
  [26104, 26168, 26232, 26295, 26359, 26423, 26487, 26551, 26615, 26680] ++
  [26744, 26808, 26872, 26936, 27001, 27065, 27129, 27194, 27258, 27323] ++
  [27387, 27452, 27516, 27581, 27646, 27710, 27775, 27840, 27905, 27969] ++
  [28034, 28099, 28164, 28229, 28294, 28359, 28424, 28490, 28555, 28620] ++
  [28685, 28751, 28816, 28882, 28947, 29012, 29078, 29144, 29209, 29275] ++
  [29341, 29406, 29472, 29538, 29604, 29670, 29736, 29802, 29868, 29934]

/-- `ASIN_ROM`, entries 500 to 599 (R153). -/
def asinPiece500 : List Nat :=
  [30000, 30066, 30132, 30199, 30265, 30331, 30398, 30464, 30531, 30597] ++
  [30664, 30730, 30797, 30864, 30931, 30997, 31064, 31131, 31198, 31265] ++
  [31332, 31399, 31467, 31534, 31601, 31668, 31736, 31803, 31870, 31938] ++
  [32005, 32073, 32141, 32208, 32276, 32344, 32412, 32480, 32548, 32616] ++
  [32684, 32752, 32820, 32888, 32956, 33025, 33093, 33161, 33230, 33298] ++
  [33367, 33436, 33504, 33573, 33642, 33711, 33780, 33849, 33918, 33987] ++
  [34056, 34125, 34194, 34264, 34333, 34402, 34472, 34541, 34611, 34681] ++
  [34750, 34820, 34890, 34960, 35030, 35100, 35170, 35240, 35310, 35380] ++
  [35451, 35521, 35591, 35662, 35732, 35803, 35874, 35944, 36015, 36086] ++
  [36157, 36228, 36299, 36370, 36441, 36513, 36584, 36655, 36727, 36798]

/-- `ASIN_ROM`, entries 600 to 699 (R153). -/
def asinPiece600 : List Nat :=
  [36870, 36942, 37013, 37085, 37157, 37229, 37301, 37373, 37445, 37517] ++
  [37590, 37662, 37734, 37807, 37879, 37952, 38025, 38097, 38170, 38243] ++
  [38316, 38389, 38462, 38536, 38609, 38682, 38756, 38829, 38903, 38976] ++
  [39050, 39124, 39198, 39272, 39346, 39420, 39494, 39568, 39643, 39717] ++
  [39792, 39866, 39941, 40016, 40091, 40166, 40241, 40316, 40391, 40466] ++
  [40542, 40617, 40693, 40768, 40844, 40920, 40996, 41071, 41148, 41224] ++
  [41300, 41376, 41453, 41529, 41606, 41682, 41759, 41836, 41913, 41990] ++
  [42067, 42144, 42222, 42299, 42377, 42454, 42532, 42610, 42688, 42766] ++
  [42844, 42922, 43000, 43079, 43157, 43236, 43314, 43393, 43472, 43551] ++
  [43630, 43709, 43789, 43868, 43948, 44027, 44107, 44187, 44267, 44347]

/-- `ASIN_ROM`, entries 700 to 799 (R153). -/
def asinPiece700 : List Nat :=
  [44427, 44507, 44588, 44668, 44749, 44830, 44910, 44991, 45072, 45154] ++
  [45235, 45316, 45398, 45480, 45561, 45643, 45725, 45807, 45890, 45972] ++
  [46054, 46137, 46220, 46303, 46386, 46469, 46552, 46635, 46719, 46803] ++
  [46886, 46970, 47054, 47138, 47223, 47307, 47392, 47476, 47561, 47646] ++
  [47731, 47817, 47902, 47988, 48073, 48159, 48245, 48331, 48417, 48504] ++
  [48590, 48677, 48764, 48851, 48938, 49025, 49113, 49200, 49288, 49376] ++
  [49464, 49552, 49641, 49729, 49818, 49907, 49996, 50085, 50175, 50264] ++
  [50354, 50444, 50534, 50624, 50714, 50805, 50896, 50987, 51078, 51169] ++
  [51261, 51352, 51444, 51536, 51628, 51721, 51813, 51906, 51999, 52092] ++
  [52186, 52279, 52373, 52467, 52561, 52655, 52750, 52845, 52940, 53035]

/-- `ASIN_ROM`, entries 800 to 899 (R153). -/
def asinPiece800 : List Nat :=
  [53130, 53226, 53322, 53418, 53514, 53610, 53707, 53804, 53901, 53998] ++
  [54096, 54194, 54292, 54390, 54489, 54587, 54686, 54786, 54885, 54985] ++
  [55085, 55185, 55286, 55386, 55487, 55588, 55690, 55792, 55894, 55996] ++
  [56099, 56202, 56305, 56408, 56512, 56616, 56720, 56825, 56930, 57035] ++
  [57140, 57246, 57352, 57458, 57565, 57672, 57779, 57887, 57995, 58103] ++
  [58212, 58321, 58430, 58539, 58649, 58760, 58870, 58981, 59093, 59204] ++
  [59317, 59429, 59542, 59655, 59769, 59883, 59997, 60112, 60227, 60343] ++
  [60459, 60575, 60692, 60809, 60927, 61045, 61164, 61283, 61402, 61522] ++
  [61642, 61763, 61885, 62006, 62129, 62252, 62375, 62499, 62623, 62748] ++
  [62873, 62999, 63126, 63253, 63380, 63508, 63637, 63766, 63896, 64027]

/-- `ASIN_ROM`, entries 900 to 999 (R153). -/
def asinPiece900 : List Nat :=
  [64158, 64290, 64422, 64555, 64689, 64823, 64958, 65094, 65230, 65368] ++
  [65505, 65644, 65783, 65923, 66064, 66206, 66348, 66491, 66635, 66780] ++
  [66926, 67073, 67220, 67369, 67518, 67668, 67820, 67972, 68125, 68279] ++
  [68435, 68591, 68749, 68907, 69067, 69228, 69390, 69554, 69718, 69884] ++
  [70052, 70220, 70390, 70562, 70735, 70909, 71085, 71262, 71442, 71623] ++
  [71805, 71990, 72176, 72364, 72554, 72746, 72940, 73137, 73335, 73536] ++
  [73740, 73946, 74154, 74365, 74579, 74796, 75016, 75240, 75466, 75696] ++
  [75930, 76168, 76410, 76656, 76906, 77161, 77422, 77688, 77959, 78237] ++
  [78522, 78813, 79113, 79420, 79737, 80064, 80401, 80751, 81115, 81494] ++
  [81890, 82307, 82748, 83217, 83720, 84268, 84874, 85561, 86376, 87437]

/-- The default contents of `ASIN_ROM` (R153). -/
def asinListing : List Nat :=
  asinPiece0 ++ asinPiece100 ++ asinPiece200 ++ asinPiece300 ++
  asinPiece400 ++ asinPiece500 ++ asinPiece600 ++ asinPiece700 ++
  asinPiece800 ++ asinPiece900 ++ [90000]

/-- Entry `r` of a table whose default contents are `listing` (R130). A given table that is too short reads 0 past
its end. -/
def romEntry (listing : List Nat) (rom : Config.Rom) (r : Nat) : Nat :=
  match rom with
  | .listing => listing.getD r 0
  | .entries l => l.getD r 0

/-- `ATAN_ROM[r]` (R11, R130). -/
def atanRom (b : Config.Build) (r : Nat) : Nat := romEntry atanListing b.atanRom r

/-- `ASIN_ROM[r]` (R11, R130). -/
def asinRom (b : Config.Build) (r : Nat) : Nat := romEntry asinListing b.asinRom r

end Sys2Proof.Machine
end

