-- ==== Sys2Proof/Machine/Trig.lean ====
section
/-! DEFINITION. The meanings of ATAN2 and ASIN (41_trig.md R131, R135). -/

namespace Sys2Proof.Machine

/-- The table index of ATAN2: the smaller magnitude over the larger, or MULT on the 45 degree path (R131). -/
def atan2Ratio (y x : Int) : Int :=
  if x = y then Config.mult
  else if x.natAbs < y.natAbs then rdiv (x.natAbs * Config.mult) y.natAbs
  else rdiv (y.natAbs * Config.mult) x.natAbs

/-- The first-quadrant angle of ATAN2: the table entry, complemented when `|x| < |y|` (R131). -/
def atan2Octant (b : Config.Build) (y x : Int) : Int :=
  if x.natAbs < y.natAbs then 90 * Config.mult - atanRom b (atan2Ratio y x).toNat
  else atanRom b (atan2Ratio y x).toNat

/-- `atan2(y, x)` in fixed-point degrees: the octant angle in the quadrant of the signs (R131). -/
def atan2Angle (b : Config.Build) (y x : Int) : Int :=
  if x = 0 ∧ y = 0 then 0
  else if x ≥ 0 then
    if y ≥ 0 then atan2Octant b y x else -atan2Octant b y x
  else
    if y ≥ 0 then 180 * Config.mult - atan2Octant b y x else atan2Octant b y x - 180 * Config.mult

/-- ATAN2: y in ARG0, x in ARG1 (R131). -/
def execAtan2 (s : State) : Host.Outcome State Fault Refusal :=
  .next (writeResult s (atan2Angle s.build (argInt s 0) (argInt s 1)))

/-- The table index of ASIN: the ratio of the magnitudes, at most MULT; MULT for a zero hypotenuse (R135). -/
def asinRatio (o h : Int) : Int :=
  if h = 0 then Config.mult else min (rdiv (o.natAbs * Config.mult) h.natAbs) Config.mult

/-- The sign of ASIN (R135). -/
def asinSign (o h : Int) : Int := if h = 0 then o.sign else o.sign * h.sign

/-- `asin(opp, hyp)` in fixed-point degrees (R135). -/
def asinAngle (b : Config.Build) (o h : Int) : Int :=
  if o = 0 then 0 else asinSign o h * asinRom b (asinRatio o h).toNat

/-- ASIN: opp in ARG0, hyp in ARG1 (R135). -/
def execAsin (s : State) : Host.Outcome State Fault Refusal :=
  .next (writeResult s (asinAngle s.build (argInt s 0) (argInt s 1)))

end Sys2Proof.Machine
end

