-- ==== Sys2Proof/Machine/Dispatch.lean ====
section
/-! DEFINITION. The meaning of a command (30_encoding.md R93, column "semantics"): one arm per constructor. -/

namespace Sys2Proof.Machine

def exec (i : Instr) (s : State) : Host.Outcome State Fault Refusal :=
  match i with
  | .nop => Sys2Proof.Machine.execNop s
  | .smuldiv => Sys2Proof.Machine.execSmuldiv s
  | .atan2 => Sys2Proof.Machine.execAtan2 s
  | .asin => Sys2Proof.Machine.execAsin s
  | .pidInit c => Sys2Proof.Machine.execPidInit c s
  | .pidUpd c => Sys2Proof.Machine.execPidUpd c s
  | .escStart => Sys2Proof.Machine.execEscStart s
  | .escSafe a => Sys2Proof.Machine.execEscSafe a s
  | .escSetw ch => Sys2Proof.Machine.execEscSetw ch s
  | .escTotal => Sys2Proof.Machine.execEscTotal s
  | .escSetx n => Sys2Proof.Machine.execEscSetx n s
  | .escIsdone => Sys2Proof.Machine.execEscIsdone s
  | .escClrdone => Sys2Proof.Machine.execEscClrdone s

end Sys2Proof.Machine
end

