-- ==== Sys2Proof/Machine/Port.lean ====
section
/-! DEFINITION. The host port (20_memory.md R61 to R66, R69) and the choice of the next input: what one step of the block
does. -/

namespace Sys2Proof.Machine

/-- The word address of CMD (R64). -/
def cmdAddr : Addr := 0x06

/-- A write to CMD: the word is decoded and the command executed; a reserved word has no effect (R63, R95). -/
def commandWrite (w : Word) (s : State) : Host.Outcome State Fault Refusal :=
  match decode w with
  | .ok i => exec i s
  | .error _ => .next s

/-- `MemWrite(a, 4, v)`: an ARG register, CMD, or ignored (R63, R66). -/
def hostWrite (a : Addr) (v : Word) (s : State) : Host.Outcome State Fault Refusal :=
  if h : a.toNat < 5 then .next (writeArg s ⟨a.toNat, h⟩ v)
  else if a = cmdAddr then commandWrite v s
  else .next s

/-- `MemRead(a, 4)`: the answer is put on `rdata`; nothing else changes (R62). -/
def hostRead (a : Addr) (s : State) : State := { s with rdata := portRead s a }

/-- Reset: every element to the table of R45; the build and the inputs still to come are not elements of the block. -/
def powerOn (s : State) : State := { State.resetOf s.build with inbox := s.inbox }

/-- The port signal `ready` for an input: only a write to CMD is held, while busy (R61, R69). -/
def ready (s : State) : Input → Bool
  | .write a _ => !(decide (a = cmdAddr) && busy s)
  | .tick => true
  | .read _ => true
  | .reset => true

/-- One input, taken (R9, R73). -/
def serve (x : Input) (s : State) : Host.Outcome State Fault Refusal :=
  match x with
  | .tick => tickStep s
  | .read a => .next (hostRead a s)
  | .write a v => hostWrite a v s
  | .reset => .next (powerOn s)

/-- One step of the block: the next input is taken if it is ready; while it is held, and when there is none, the step is
a TICK, which leaves the inputs as they are (R69, R73, R220). -/
def advance (s : State) : Host.Outcome State Fault Refusal :=
  match s.inbox with
  | [] => tickStep s
  | x :: rest => if ready s x then serve x { s with inbox := rest } else tickStep s

/-- The state with a write of the command word `w` as its next input, and the engine idle so that it is not held
(R69). -/
def withCommand (s : State) (w : Word) : State :=
  { s with inbox := .write cmdAddr w :: s.inbox, seqPhase := .idle }

end Sys2Proof.Machine
end

