-- ==== Sys2Proof/Machine/Step.lean ====
section
/-! DEFINITION. The step of the machine, and how the host puts a command before it. -/

namespace Sys2Proof.Machine

/-- One step of one agent (R9). -/
def step (s : State) : Host.Outcome State Fault Refusal := advance s

/-- `s` with the command of table bits `w` written to CMD as the very next input. -/
def State.withFetchWord (s : State) (nbits w : Nat) : State := withCommand s (tableWord nbits w)

end Sys2Proof.Machine
end

