-- ==== Sys2Proof/Machine/Script.lean ====
section
/-! DEFINITION. Host scripts (30_encoding.md R98) and their pseudo-instructions (R99), as lists of inputs. -/

namespace Sys2Proof.Machine

/-- The register names of the map (20_memory.md R64). -/
inductive RegName where
  | arg (i : Fin 5)
  | result
  | cmd
  | status
  | timer
  | compare
  | elapsed
  | width (ch : Fin 8)
  | pidErrsum (c : Fin 4)
  | pidErrlast (c : Fin 4)
  deriving DecidableEq, Repr

/-- `addr(reg)` (R64). -/
def regAddr : RegName → Addr
  | .arg i => BitVec.ofNat 6 i
  | .result => 0x05
  | .cmd => cmdAddr
  | .status => 0x07
  | .timer => 0x08
  | .compare => 0x09
  | .elapsed => 0x0A
  | .width ch => BitVec.ofNat 6 (0x10 + ch)
  | .pidErrsum c => BitVec.ofNat 6 (0x20 + c)
  | .pidErrlast c => BitVec.ofNat 6 (0x28 + c)

/-- A line of a host script (R98); the rows of R99 after it. -/
inductive ScriptLine where
  /-- `WR reg, #v`. -/
  | wr (reg : RegName) (v : Int)
  /-- `RD reg`. -/
  | rd (reg : RegName)
  /-- `CMD mnemonic [idx]`. -/
  | cmd (i : Instr)
  /-- `TICK n`. -/
  | tick (n : Nat)
  /-- `MULDIV #v, #n, #d`. -/
  | muldiv (v n d : Int)
  /-- `ATAN #y, #x`. -/
  | atan (y x : Int)
  /-- `ARCSIN #opp, #hyp`. -/
  | arcsin (opp hyp : Int)
  /-- `GAINS #kp, #ki, #kd`. -/
  | gains (kp ki kd : Int)
  /-- `PID c, #cur, #tgt`. -/
  | pid (c : Idx) (cur tgt : Int)
  /-- `WIDTH ch, #t`. -/
  | width (ch : Idx) (t : Int)
  /-- `ARM`. -/
  | arm
  /-- `DISARM`. -/
  | disarm
  deriving DecidableEq, Repr

/-- The transaction of `WR reg, #v`: `wdata = v mod 2^32` (R98). -/
def writeTo (reg : RegName) (v : Int) : Input := .write (regAddr reg) (signedWord v)

/-- The transaction of `CMD`: `word = opcode + 256 x idx` (R98). -/
def issue (i : Instr) : Input := .write cmdAddr (encode i)

/-- The inputs a line stands for (R98, R99). -/
def lineInputs : ScriptLine → List Input
  | .wr reg v => [writeTo reg v]
  | .rd reg => [.read (regAddr reg)]
  | .cmd i => [issue i]
  | .tick n => List.replicate n .tick
  | .muldiv v n d => [writeTo (.arg 0) v, writeTo (.arg 1) n, writeTo (.arg 2) d, issue .smuldiv]
  | .atan y x => [writeTo (.arg 0) y, writeTo (.arg 1) x, issue .atan2]
  | .arcsin opp hyp => [writeTo (.arg 0) opp, writeTo (.arg 1) hyp, issue .asin]
  | .gains kp ki kd => [writeTo (.arg 0) kp, writeTo (.arg 1) ki, writeTo (.arg 2) kd]
  | .pid c cur tgt => [writeTo (.arg 3) cur, writeTo (.arg 4) tgt, issue (.pidUpd c)]
  | .width ch t => [writeTo (.arg 0) t, issue (.escSetw ch)]
  | .arm => [issue (.escSafe 1)]
  | .disarm => [issue (.escSafe 0)]

/-- The inputs of a script, line by line (R98). -/
def scriptInputs (lines : List ScriptLine) : List Input := lines.flatMap lineInputs

end Sys2Proof.Machine
end

