-- ==== Sys2Proof/Safety.lean ====
section
/-! DEFINITION. What claims are stated with: the constraints on a build (R7, R150), the invariants of the block (R44 and
the derived bounds of R32, R222, R232), the reserved words (R95). -/

namespace Sys2Proof.Safety

open Sys2Proof.Machine

/-- The entries a table holds. -/
def romContents (listing : List Nat) : Config.Rom → List Nat
  | .listing => listing
  | .entries l => l

/-- R150: 1001 entries, the first 0, the last `top`, none smaller than the one before it. -/
def RomValid (listing : List Nat) (rom : Config.Rom) (top : Nat) : Prop :=
  (romContents listing rom).length = 1001 ∧ romEntry listing rom 0 = 0 ∧ romEntry listing rom 1000 = top ∧
    ∀ i < 1000, romEntry listing rom i ≤ romEntry listing rom (i + 1)

/-- The constraints of R7 and R150 on the OPEN parameters: a build the spec is about (R255, U16). -/
structure BuildValid (b : Config.Build) : Prop where
  baseTick : 1 ≤ b.baseTick ∧ b.baseTick ≤ 2 ^ 24
  frameTicks : 1 ≤ b.frameTicks ∧ b.frameTicks ≤ 2 ^ 31
  leadTicks : b.tSettle + 3 * b.tPad < b.leadTicks ∧ b.leadTicks < 2 ^ 31
  tSettle : 1 ≤ b.tSettle
  tPad : 1 ≤ b.tPad
  atanRom : RomValid atanListing b.atanRom 45000
  asinRom : RomValid asinListing b.asinRom 90000

/-- R44 item 1. -/
def WidthsInRange (s : State) : Prop :=
  ∀ c : Fin 8, 2 * s.build.baseTick ≤ (s.width[c]).toNat ∧ (s.width[c]).toNat ≤ 4 * s.build.baseTick

/-- R44 item 2. -/
def IntegralsInRange (s : State) : Prop := ∀ c : Fin 4, -1000000 ≤ (s.errSum[c]).toInt ∧ (s.errSum[c]).toInt ≤ 1000000

/-- R44 item 5: the safety interlock (R185). -/
def InterlockHolds (s : State) : Prop := s.safetyArmed = false → s.srRst = false

/-- TICK steps until the timer equals the compare register (R221). -/
def ticksToMatch (s : State) : Nat := (s.compare - s.timer).toNat

/-- TICK steps until the engine is back in IDLE (R227). -/
def ticksToIdle (s : State) : Nat :=
  match s.seqPhase with
  | .idle => 0
  | .settle => s.seqWait + 3 * s.build.tPad
  | .pad1 => s.seqWait + 2 * s.build.tPad
  | .pad2 => s.seqWait + s.build.tPad
  | .pad3 => s.seqWait

/-- The serial pins in each phase (R44 item 6, R183), and the range of the down-counter. -/
def EnginePins (s : State) : Prop :=
  match s.seqPhase with
  | .idle => s.srData = false ∧ s.srClk = false ∧ s.seqWait = 0
  | .settle => s.srData = false ∧ s.srClk = false ∧ 1 ≤ s.seqWait ∧ s.seqWait ≤ s.build.tSettle
  | .pad1 => s.srData = true ∧ s.srClk = false ∧ 1 ≤ s.seqWait ∧ s.seqWait ≤ s.build.tPad
  | .pad2 => s.srData = true ∧ s.srClk = true ∧ 1 ≤ s.seqWait ∧ s.seqWait ≤ s.build.tPad
  | .pad3 => s.srData = true ∧ s.srClk = false ∧ 1 ≤ s.seqWait ∧ s.seqWait ≤ s.build.tPad

/-- What holds after reset and after every step: R44, with what R32, R222 and R232 derive. -/
structure Inv (s : State) : Prop where
  /-- The build meets the constraints of R7. -/
  build : BuildValid s.build
  /-- R44 item 1. -/
  widths : WidthsInRange s
  /-- R44 item 2. -/
  integrals : IntegralsInRange s
  /-- R44 item 3. -/
  extra : s.extra.toNat ≤ 4
  /-- R44 item 4. -/
  index : s.channelIndex.toNat ≤ 8
  /-- R44 item 4. -/
  indexRun : s.seqRun = true → s.channelIndex.toNat ≤ 7
  /-- R44 item 5. -/
  interlock : InterlockHolds s
  /-- R44 item 6, for every phase. -/
  pins : EnginePins s
  /-- R44 item 7. -/
  runNotDone : s.seqRun = true → s.doneFlag = false
  /-- R222: while a frame runs the compare register is ahead of the timer. -/
  matchAhead : s.seqRun = true →
    1 ≤ ticksToMatch s ∧ ticksToMatch s ≤ max s.build.leadTicks (4 * s.build.baseTick)
  /-- R232: while the engine is busy a frame runs and its first match comes after the engine's last action. -/
  engineFirst : busy s = true → s.seqRun = true ∧ ticksToIdle s < ticksToMatch s
  /-- R32: while a frame runs, what `elapsed` can have reached. -/
  elapsedBound : s.seqRun = true →
    s.elapsed.toNat ≤ s.build.frameTicks + s.channelIndex.toNat * (4 * s.build.baseTick)
  /-- R224: the terminal state is entered past the frame budget. -/
  donePastBudget : s.doneFlag = true → s.build.frameTicks < s.elapsed.toNat

/-- The opcodes of the map (R93). -/
def definedOpcodes : List (BitVec 8) :=
  [0x00, 0x01, 0x02, 0x03, 0x10, 0x11, 0x20, 0x21, 0x22, 0x23, 0x24, 0x25, 0x26]

/-- The legal encodings of `idx` by opcode (R91). -/
def idxLegal (op : BitVec 8) (idx : Idx) : Prop :=
  if op = 0x10 ∨ op = 0x11 then idx.toNat ≤ 3
  else if op = 0x21 then idx.toNat ≤ 1
  else if op = 0x22 ∨ op = 0x24 then True
  else idx.toNat = 0

/-- A reserved command word: "an undefined opcode, a non-zero `zero` field, or an `idx` outside the legal encodings"
(R95). -/
def ReservedWord (w : Word) : Prop :=
  opcodeField w ∉ definedOpcodes ∨ zeroField w ≠ 0 ∨ ¬ idxLegal (opcodeField w) (idxField w)

/-- What the host can read of a state is the same at every address but those of `except` (R64). -/
def SameReads (s t : State) (except : List Addr) : Prop := ∀ a : Addr, a ∉ except → portRead t a = portRead s a

end Sys2Proof.Safety
end

