-- ==== Sys2Proof/Certificates/Slice0/Obligations.lean ====
section
/-! DEFINITION. The statements for the provers, each from the spec's numbered rules. -/

open Sys2Proof Sys2Proof.Machine Sys2Proof.Safety

/-! ### Command words -/

/-- 30_encoding.md R90, R91, R93: the word of a well-formed command decodes to that command, every operand included. -/
def Obligations.DecodeOfEncodeIsTheCommand : Prop := ∀ i : Instr, i.wellFormed = true → decode (encode i) = .ok i

/-- 30_encoding.md R90 to R95: a word that decodes to a command is that command's own word, so a command has one word. -/
def Obligations.DecodedWordIsItsEncoding : Prop :=
  ∀ (w : Word) (i : Instr), decode w = .ok i → i.wellFormed = true ∧ encode i = w

/-- 30_encoding.md R93: a word selects a command exactly when it matches its row, and the thirteen rows are disjoint. -/
def Obligations.TableRowSelectsTheCommand : Prop :=
  (∀ (w : Word) (i : Instr), w &&& maskOf i = matchOf i ↔ ∃ j, decode w = .ok j ∧ matchOf j = matchOf i) ∧
  ∀ (w : Word) (i j : Instr), w &&& maskOf i = matchOf i → w &&& maskOf j = matchOf j →
    matchOf i = matchOf j ∧ maskOf i = maskOf j

/-- 30_encoding.md section 3, the examples of whole words, and the first word of every other row of the map. -/
def Obligations.SampleWordsDecode : Prop :=
  decode 0x00000000 = .ok .nop ∧ decode 0x00000001 = .ok .smuldiv ∧ decode 0x00000002 = .ok .atan2 ∧
  decode 0x00000003 = .ok .asin ∧ decode 0x00000310 = .ok (.pidInit 3) ∧ decode 0x00000211 = .ok (.pidUpd 2) ∧
  decode 0x00000020 = .ok .escStart ∧ decode 0x00000121 = .ok (.escSafe 1) ∧ decode 0x00000522 = .ok (.escSetw 5) ∧
  decode 0x00000023 = .ok .escTotal ∧ decode 0x00000424 = .ok (.escSetx 4) ∧ decode 0x00000025 = .ok .escIsdone ∧
  decode 0x00000026 = .ok .escClrdone

/-- 30_encoding.md R95: the words that match none of the thirteen patterns are those with an undefined opcode, a non-zero
upper field or an illegal `idx`; written to CMD, such a word changes nothing. While busy it is held: it stays the next
input, and every input behind it waits too (the model's reading, log 3). -/
def Obligations.ReservedWordHasNoEffect : Prop :=
  (∀ w : Word, ReservedWord w ↔ ∀ i, w &&& maskOf i ≠ matchOf i) ∧
  ∀ (s : State) (w : Word) (rest : List Input), ReservedWord w → s.inbox = .write cmdAddr w :: rest →
    (s.seqPhase = .idle → step s = .next { s with inbox := rest }) ∧
    (s.seqPhase ≠ .idle → ∀ t, step s = .next t → t.inbox = s.inbox)

/-- 30_encoding.md R96: the all-zero word is NOP; it changes no state. While busy it is held: it stays the next
input, and every input behind it waits too (the model's reading, log 3). -/
def Obligations.NopChangesNothing : Prop :=
  encode .nop = 0x00000000 ∧ (∀ s : State, exec .nop s = .next s) ∧
  ∀ (s : State) (rest : List Input), s.inbox = .write cmdAddr 0x00000000 :: rest →
    (s.seqPhase = .idle → step s = .next { s with inbox := rest }) ∧
    (s.seqPhase ≠ .idle → ∀ t, step s = .next t → t.inbox = s.inbox)

/-! ### The host port and the step -/

/-- 20_memory.md R63, 30_encoding.md R90: a write to CMD that is not held runs the command the word decodes to, and the
step is that command's meaning on the state without the transaction. -/
def Obligations.CommandWriteRunsTheDecodedCommand : Prop :=
  (∀ (s : State) (w : Word) (i : Instr) (rest : List Input), s.inbox = .write cmdAddr w :: rest → s.seqPhase = .idle →
    decode w = .ok i → step s = exec i { s with inbox := rest }) ∧
  ∀ (s : State) (w : Nat) (i : Instr), decode (BitVec.ofNat 32 (w % 2 ^ 32)) = .ok i →
    step (s.withFetchWord 32 w) = exec i { s with seqPhase := .idle }

/-- 20_memory.md R62 and R64: a host read answers the word of the register at its address on `rdata`, as the map lays
them out, and changes nothing else. -/
def Obligations.HostReadAnswersTheMappedRegister : Prop :=
  (∀ (s : State) (a : Addr) (rest : List Input), s.inbox = .read a :: rest →
    step s = .next { s with inbox := rest, rdata := portRead s a }) ∧
  ∀ s : State,
    (∀ k : Fin 5, portRead s (BitVec.ofNat 6 k) = s.args[k]) ∧ portRead s 0x05 = s.result ∧
    portRead s 0x07 = statusWord s ∧ portRead s 0x08 = s.timer ∧ portRead s 0x09 = s.compare ∧
    portRead s 0x0A = s.elapsed ∧ (∀ k : Fin 8, portRead s (BitVec.ofNat 6 (0x10 + k)) = s.width[k]) ∧
    (∀ k : Fin 4, portRead s (BitVec.ofNat 6 (0x20 + k)) = s.errSum[k]) ∧
    (∀ k : Fin 4, portRead s (BitVec.ofNat 6 (0x28 + k)) = s.errLast[k])

/-- 10_state.md R40: the fields of STATUS, bit by bit, and R62: a read of it answers that word with no side effect. -/
def Obligations.StatusShowsTheFlagsAndPins : Prop :=
  (∀ s : State,
    let w := statusWord s
    w.getLsbD 0 = s.doneFlag ∧ w.getLsbD 1 = s.safetyArmed ∧ w.getLsbD 2 = decide (s.seqPhase ≠ .idle) ∧
    w.getLsbD 3 = s.seqRun ∧ w.extractLsb' 4 3 = s.extra ∧ w.getLsbD 7 = false ∧
    w.extractLsb' 8 4 = s.channelIndex ∧ w.getLsbD 12 = s.escOut ∧ w.getLsbD 13 = s.srData ∧
    w.getLsbD 14 = s.srClk ∧ w.getLsbD 15 = s.srRst ∧
    (w.extractLsb' 16 3).toNat = (match s.seqPhase with | .idle => 0 | .settle => 1 | .pad1 => 2 | .pad2 => 3 | .pad3 => 4) ∧
    w.extractLsb' 19 13 = 0) ∧
  ∀ (s : State) (rest : List Input), s.inbox = .read 0x07 :: rest →
    step s = .next { s with inbox := rest, rdata := statusWord s }

/-- 20_memory.md R63: a host write stores an ARG register, executes the word written to CMD (not held), or is ignored. -/
def Obligations.HostWriteStoresExecutesOrIsIgnored : Prop :=
  ∀ (s : State) (a : Addr) (v : Word) (rest : List Input), s.inbox = .write a v :: rest →
    (∀ h : a.toNat < 5, step s = .next { s with inbox := rest, args := s.args.set a.toNat v h }) ∧
    (a = 0x06 → s.seqPhase = .idle → step s = commandWrite v { s with inbox := rest }) ∧
    (5 ≤ a.toNat → a ≠ 0x06 → step s = .next { s with inbox := rest })

/-- 20_memory.md R66: reserved addresses and CMD read 0; a write to a read-only register or a reserved address changes
no state. -/
def Obligations.ReservedAddressesReadZeroAndIgnoreWrites : Prop :=
  (∀ (s : State) (a : Addr),
    (a = 0x06 ∨ (0x0B ≤ a.toNat ∧ a.toNat ≤ 0x0F) ∨ (0x18 ≤ a.toNat ∧ a.toNat ≤ 0x1F) ∨
      (0x24 ≤ a.toNat ∧ a.toNat ≤ 0x27) ∨ 0x2C ≤ a.toNat) → portRead s a = 0) ∧
  ∀ (s : State) (a : Addr) (v : Word) (rest : List Input), 5 ≤ a.toNat → a ≠ 0x06 → s.inbox = .write a v :: rest →
    step s = .next { s with inbox := rest }

/-- 20_memory.md section 3, R69: a write to CMD is held while busy: the step is a TICK (the model's reading, log 3) and
the write stays the next input; from a
state of the invariant at most T_SETTLE + 3 x T_PAD TICK steps bring the engine to IDLE, and then the write executes.
Reads and writes to ARG are never held. -/
def Obligations.BusyHoldsCommandWritesForABoundedTime : Prop :=
  (∀ (s : State) (w : Word) (rest : List Input), s.inbox = .write cmdAddr w :: rest → s.seqPhase ≠ .idle →
    step s = tickStep s ∧
    (Inv s → ∃ n, 1 ≤ n ∧ n ≤ s.build.tSettle + 3 * s.build.tPad ∧
      (∀ k < n, ∃ t : State, Host.Core.run core k s = .next t ∧ t.seqPhase ≠ .idle ∧ t.inbox = s.inbox) ∧
      ∃ t : State, Host.Core.run core n s = .next t ∧ t.seqPhase = .idle ∧ t.inbox = s.inbox ∧
        step t = commandWrite w { t with inbox := rest })) ∧
  (∀ (s : State) (a : Addr) (rest : List Input), s.inbox = .read a :: rest →
    step s = .next { s with inbox := rest, rdata := portRead s a }) ∧
  ∀ (s : State) (a : Addr) (v : Word) (rest : List Input) (h : a.toNat < 5), s.inbox = .write a v :: rest →
    step s = .next { s with inbox := rest, args := s.args.set a.toNat v h }

/-- 30_encoding.md R98 and R99, 20_memory.md R73: the lines of `MULDIV #v, #n, #d` are four HOST steps, after which RESULT
holds the scaled product. -/
def Obligations.MuldivScriptComputesTheScaledProduct : Prop :=
  ∀ (s : State) (v n d : Int), s.seqPhase = .idle → s.inbox = lineInputs (.muldiv v n d) →
    (-2147483648 ≤ v ∧ v ≤ 2147483647) → (-2147483648 ≤ n ∧ n ≤ 2147483647) → (-2147483648 ≤ d ∧ d ≤ 2147483647) →
    ∃ t : State, Host.Core.run core 4 s = .next t ∧
      t = { s with
            inbox := [], result := signedWord (scaledMulDiv v n d)
            args := ((s.args.set 0 (signedWord v)).set 1 (signedWord n)).set 2 (signedWord d) }

/-! ### Whole-machine rules -/

/-- 10_state.md R44, with what R32, R222, R224 and R232 derive: every step of every agent keeps the invariant. -/
def Obligations.EveryStepKeepsTheInvariant : Prop := ∀ s t : State, Inv s → step s = .next t → Inv t

/-- 10_state.md R44 and R45: the reset state of every valid build meets the invariant; so does the machine's own. -/
def Obligations.ResetMeetsTheInvariant : Prop :=
  (∀ b : Config.Build, BuildValid b → Inv (State.resetOf b)) ∧ Inv State.reset

/-- 60_exceptions.md R210: no command, with any operands, in any state, fails; and from the invariant no step of the
block stops, so that no width beyond the eight is ever read (R225). -/
def Obligations.NothingEverStopsTheBlock : Prop :=
  (∀ (i : Instr) (s : State), ∃ t, exec i s = .next t) ∧ ∀ s : State, Inv s → ∃ t, step s = .next t ∧ Inv t

/-- 10_state.md R45: the reset value of every element. The model's own fields (`build`, `rdata`, `inbox`) are left out:
their values are the model's choice (log 1, 2, 4). -/
def Obligations.ResetLeavesTheTabledValues : Prop :=
  ∀ b : Config.Build, BuildValid b →
    let s := State.resetOf b
    (∀ k : Fin 5, s.args[k] = 0) ∧ s.result = 0 ∧ (∀ c : Fin 4, s.errSum[c] = 0 ∧ s.errLast[c] = 0) ∧
    (∀ c : Fin 8, (s.width[c]).toNat = 2 * b.baseTick) ∧ s.channelIndex = 0 ∧ s.elapsed = 0 ∧ s.doneFlag = false ∧
    s.safetyArmed = false ∧ s.extra = 0 ∧ s.seqRun = false ∧ s.seqPhase = .idle ∧ s.seqWait = 0 ∧ s.timer = 0 ∧
    s.compare = 0 ∧ s.escOut = false ∧ s.srData = false ∧ s.srClk = false ∧ s.srRst = false

/-- 70_reset_and_hazards.md R250, 60_exceptions.md R236 and R239 (the model's reading, log 5): the reset input takes every
element to its reset value, whatever the state; the build and the inputs still to come are not elements. -/
def Obligations.ResetInputRestoresTheResetState : Prop :=
  ∀ (s : State) (rest : List Input), s.inbox = .reset :: rest →
    step s = .next { State.resetOf s.build with inbox := rest }

/-- 00_scope.md R7 and 10_state.md R43: no step changes a parameter or a table. -/
def Obligations.NoStepChangesTheBuild : Prop := ∀ s t : State, step s = .next t → t.build = s.build

/-- 10_state.md R20: no command and no TICK step writes an argument register; the host reads back what it wrote. -/
def Obligations.OnlyTheHostWritesArguments : Prop :=
  (∀ (i : Instr) (s t : State), exec i s = .next t → t.args = s.args) ∧
  (∀ s t : State, tickStep s = .next t → t.args = s.args) ∧
  ∀ (s : State) (a : Addr) (v : Word) (rest : List Input), a.toNat < 5 → s.inbox = .write a v :: rest →
    ∃ t, step s = .next t ∧ portRead t a = v ∧ SameReads s t [a]

/-- 10_state.md R21: exactly six commands write RESULT; every other command and every TICK step leaves it unchanged; the
host reads it at 0x05 and cannot write it. -/
def Obligations.ExactlySixCommandsWriteResult : Prop :=
  (∀ (i : Instr) (s t : State), exec i s = .next t →
    (i ≠ .smuldiv ∧ i ≠ .atan2 ∧ i ≠ .asin ∧ (∀ c, i ≠ .pidUpd c) ∧ i ≠ .escTotal ∧ i ≠ .escIsdone) →
    t.result = s.result) ∧
  (∀ i : Instr, (i = .smuldiv ∨ i = .atan2 ∨ i = .asin ∨ (∃ c, i = .pidUpd c ∧ c.toNat < 4) ∨ i = .escTotal ∨
    i = .escIsdone) → ∃ s t, exec i s = .next t ∧ t.result ≠ s.result) ∧
  (∀ s t : State, tickStep s = .next t → t.result = s.result) ∧
  (∀ s : State, portRead s 0x05 = s.result) ∧
  ∀ (s : State) (v : Word) (rest : List Input), s.inbox = .write 0x05 v :: rest → step s = .next { s with inbox := rest }

/-- 10_state.md sections 1 to 8 and the "State written" of every command: what the host can read after a command is as
before at every address but those of what the command writes; and no command touches the build, the port signal or the
inputs still to come. -/
def Obligations.CommandsLeaveOtherRegistersAlone : Prop :=
  ∀ (i : Instr) (s t : State), exec i s = .next t →
    (t.build = s.build ∧ t.rdata = s.rdata ∧ t.inbox = s.inbox) ∧
    (i = .smuldiv ∨ i = .atan2 ∨ i = .asin ∨ i = .escTotal ∨ i = .escIsdone →
      SameReads s t [0x05] ∧ t.seqWait = s.seqWait) ∧
    (∀ c, i = .pidInit c → SameReads s t [BitVec.ofNat 6 (0x20 + c.toNat), BitVec.ofNat 6 (0x28 + c.toNat)] ∧
      t.seqWait = s.seqWait) ∧
    (∀ c, i = .pidUpd c → SameReads s t [0x05, BitVec.ofNat 6 (0x20 + c.toNat), BitVec.ofNat 6 (0x28 + c.toNat)] ∧
      t.seqWait = s.seqWait) ∧
    (∀ ch, i = .escSetw ch → SameReads s t [BitVec.ofNat 6 (0x10 + ch.toNat)] ∧ t.seqWait = s.seqWait) ∧
    ((∃ a, i = .escSafe a) ∨ (∃ n, i = .escSetx n) ∨ i = .escClrdone →
      SameReads s t [0x07] ∧ t.seqWait = s.seqWait) ∧
    (i = .escStart → SameReads s t [0x07, 0x09, 0x0A]) ∧
    (i = .nop → t = s)

/-- 10_state.md sections 3 to 7 ("written by", "written only by"): each element of the sequencer changes, in a command,
only in the commands that write it; no command writes the timer, ESC_OUT, SR_DATA or SR_CLK, and only disarming or
ESC.START lowers SR_RST, which no command raises. -/
def Obligations.ElementsHaveOnlyTheirWriters : Prop :=
  ∀ (i : Instr) (s t : State), exec i s = .next t →
    (t.timer = s.timer ∧ t.escOut = s.escOut ∧ t.srData = s.srData ∧ t.srClk = s.srClk) ∧
    (t.width ≠ s.width → ∃ ch, i = .escSetw ch) ∧ (t.extra ≠ s.extra → ∃ n, i = .escSetx n) ∧
    (t.safetyArmed ≠ s.safetyArmed → i = .escSafe 0 ∨ i = .escSafe 1) ∧
    (t.srRst ≠ s.srRst → t.srRst = false ∧ (i = .escSafe 0 ∨ i = .escStart)) ∧
    (t.doneFlag ≠ s.doneFlag → t.doneFlag = false ∧ (i = .escClrdone ∨ i = .escStart)) ∧
    (i ≠ .escStart → t.seqRun = s.seqRun ∧ t.seqPhase = s.seqPhase ∧ t.seqWait = s.seqWait ∧
      t.channelIndex = s.channelIndex ∧ t.compare = s.compare ∧ t.elapsed = s.elapsed)

/-- 60_exceptions.md R220 to R231 and 10_state.md R20 to R36 ("written by"): a TICK step leaves ARG, RESULT, the PID
contexts, the widths, the extra count, the armed flag, the port signal and the inputs as they are. -/
def Obligations.TickTouchesOnlyTheSequencer : Prop :=
  ∀ s t : State, tickStep s = .next t →
    t.args = s.args ∧ t.result = s.result ∧ t.errSum = s.errSum ∧ t.errLast = s.errLast ∧ t.width = s.width ∧
    t.extra = s.extra ∧ t.safetyArmed = s.safetyArmed ∧ t.build = s.build ∧ t.rdata = s.rdata ∧ t.inbox = s.inbox

/-! ### SMULDIV -/

/-- 40_scaled_arith.md R112: SMULDIV, in the rule's own pseudocode; it writes RESULT only. -/
def Obligations.SmuldivFollowsItsRule : Prop :=
  encode .smuldiv = 0x00000001 ∧
  ∀ s : State,
    let v := (s.args[0]).toInt
    let n := (s.args[1]).toInt
    let d := (s.args[2]).toInt
    let p := v * n
    exec .smuldiv s = .next { s with
      result := BitVec.ofInt 32
        (if d = 0 then (if p > 0 then 2147483647 else if p < 0 then -2147483648 else 0)
         else max (-2147483648) (min 2147483647 ((p + d.tdiv 2).tdiv d))) }

/-- 40_scaled_arith.md R113: with a zero denominator the result depends only on the sign of the exact product, which is
zero exactly when an operand is. -/
def Obligations.SmuldivByZeroFollowsTheExactSign : Prop :=
  ∀ s : State, (s.args[2]).toInt = 0 → ∃ t, exec .smuldiv s = .next t ∧
    let v := (s.args[0]).toInt
    let n := (s.args[1]).toInt
    ((0 < v ∧ 0 < n) ∨ (v < 0 ∧ n < 0) → t.result.toInt = 2147483647) ∧
    ((0 < v ∧ n < 0) ∨ (v < 0 ∧ 0 < n) → t.result.toInt = -2147483648) ∧
    (v = 0 ∨ n = 0 → t.result.toInt = 0)

/-- 40_scaled_arith.md sections 2 (closed form by sign, derived there) and 1 (saturation): SMULDIV with a non-zero
denominator. -/
def Obligations.SmuldivClosedFormBySign : Prop :=
  ∀ s : State, (s.args[2]).toInt ≠ 0 → ∃ t, exec .smuldiv s = .next t ∧
    let p := (s.args[0]).toInt * (s.args[1]).toInt
    let d := (s.args[2]).toInt
    let P := p.natAbs
    let D := d.natAbs
    let H := D / 2
    let q : Int := if (0 ≤ p ∧ 0 < d) ∨ (p ≤ 0 ∧ d < 0) then ((P + H) / D : Nat)
      else if H ≤ P then -((P - H) / D : Nat) else 0
    t.result.toInt = max (-2147483648) (min 2147483647 q) ∧ (D = 1 → q = p * d.sign)

/-- 40_scaled_arith.md section 2 (the document's accuracy property, as derived there): the rounding division equals the
quotient rounded half away from zero when it is not negative, and is that or one more when it is. -/
def Obligations.RoundingDivisionIsWithinOneUnit : Prop :=
  ∀ p d : Int, d ≠ 0 →
    let nearest : Int := p.sign * d.sign * ((2 * p.natAbs + d.natAbs) / (2 * d.natAbs) : Nat)
    (0 ≤ p * d → rdiv p d = nearest) ∧ (p * d < 0 → rdiv p d = nearest ∨ rdiv p d = nearest + 1)

/-! ### ATAN2 and ASIN -/

/-- 41_trig.md R131: ATAN2, in the rule's own pseudocode; it writes RESULT only. -/
def Obligations.Atan2FollowsItsRule : Prop :=
  encode .atan2 = 0x00000002 ∧
  ∀ s : State,
    let y := (s.args[0]).toInt
    let x := (s.args[1]).toInt
    let ax : Int := x.natAbs
    let ay : Int := y.natAbs
    let r : Int := if x = y then 1000
      else if ax < ay then (ax * 1000 + ay.tdiv 2).tdiv ay else (ay * 1000 + ax.tdiv 2).tdiv ax
    let entry : Int := atanRom s.build r.toNat
    let a : Int := if ax < ay then 90000 - entry else entry
    exec .atan2 s = .next { s with
      result := BitVec.ofInt 32
        (if x = 0 ∧ y = 0 then 0
         else if 0 ≤ x then (if 0 ≤ y then a else -a)
         else (if 0 ≤ y then 180000 - a else a - 180000)) }

/-- 41_trig.md section 2, the table of special cases and axes: the results that do not depend on the table contents
beyond R150. -/
def Obligations.Atan2OnAxesAndDiagonals : Prop :=
  ∀ s : State, BuildValid s.build → ∃ t, exec .atan2 s = .next t ∧
    let y := (s.args[0]).toInt
    let x := (s.args[1]).toInt
    (x = 0 ∧ y = 0 → t.result.toInt = 0) ∧ (y = 0 ∧ 0 < x → t.result.toInt = 0) ∧
    (y = 0 ∧ x < 0 → t.result.toInt = 180000) ∧ (x = 0 ∧ 0 < y → t.result.toInt = 90000) ∧
    (x = 0 ∧ y < 0 → t.result.toInt = -90000) ∧ (x = y ∧ 0 < x → t.result.toInt = 45000) ∧
    (x = y ∧ x < 0 → t.result.toInt = -135000) ∧ (x = -y ∧ 0 < x → t.result.toInt = -45000) ∧
    (x = -y ∧ x < 0 → t.result.toInt = 135000)

/-- 41_trig.md section 2 (range and symmetry, derived there): for every table that meets R150, and every pair of operands. -/
def Obligations.Atan2RangeAndSymmetry : Prop :=
  (∀ s : State, BuildValid s.build → ∃ t, exec .atan2 s = .next t ∧ -180000 ≤ t.result.toInt ∧ t.result.toInt ≤ 180000) ∧
  (∀ s s' t t' : State, BuildValid s.build → s'.build = s.build → (s'.args[0]).toInt = -(s.args[0]).toInt →
    s'.args[1] = s.args[1] → ((s.args[0]).toInt ≠ 0 ∨ 0 ≤ (s.args[1]).toInt) → exec .atan2 s = .next t →
    exec .atan2 s' = .next t' → t'.result.toInt = -t.result.toInt) ∧
  ∀ s s' t t' : State, BuildValid s.build → s'.build = s.build → s'.args[0] = s.args[1] → s'.args[1] = s.args[0] →
    0 < (s.args[0]).toInt → 0 < (s.args[1]).toInt → exec .atan2 s = .next t → exec .atan2 s' = .next t' →
    t.result.toInt + t'.result.toInt = 90000

/-- 41_trig.md R135: ASIN, in the rule's own pseudocode; it writes RESULT only. -/
def Obligations.AsinFollowsItsRule : Prop :=
  encode .asin = 0x00000003 ∧
  ∀ s : State,
    let o := (s.args[0]).toInt
    let h := (s.args[1]).toInt
    let ao : Int := o.natAbs
    let ah : Int := h.natAbs
    let r : Int := if h = 0 then 1000 else min ((ao * 1000 + ah.tdiv 2).tdiv ah) 1000
    let sg : Int := if h = 0 then o.sign else o.sign * h.sign
    let entry : Int := asinRom s.build r.toNat
    exec .asin s = .next { s with result := BitVec.ofInt 32 (if o = 0 then 0 else sg * entry) }

/-- 41_trig.md section 3 (the corner cases, derived there): ASIN outside its domain, its range and its mirroring. -/
def Obligations.AsinClampsAndMirrors : Prop :=
  (∀ s : State, BuildValid s.build → ∃ t, exec .asin s = .next t ∧
    let o := (s.args[0]).toInt
    let h := (s.args[1]).toInt
    (-90000 ≤ t.result.toInt ∧ t.result.toInt ≤ 90000) ∧ (o = 0 → t.result.toInt = 0) ∧
    (h = 0 → t.result.toInt = 90000 * o.sign) ∧
    (0 < h.natAbs ∧ h.natAbs ≤ o.natAbs → t.result.toInt = 90000 * (o.sign * h.sign)) ∧
    (o.natAbs * 2000 < h.natAbs → t.result.toInt = 0)) ∧
  ∀ s s' t t' : State, BuildValid s.build → s'.build = s.build → exec .asin s = .next t → exec .asin s' = .next t' →
    ((s'.args[0]).toInt = -(s.args[0]).toInt ∧ s'.args[1] = s.args[1] → t'.result.toInt = -t.result.toInt) ∧
    ((s'.args[1]).toInt = -(s.args[1]).toInt ∧ (s.args[1]).toInt ≠ 0 ∧ s'.args[0] = s.args[0] →
      t'.result.toInt = -t.result.toInt)

/-! ### PID -/

/-- 43_pid.md R161: PID.INIT zeroes both fields of its context and writes nothing else; with an `idx` of 4..7 nothing
changes. -/
def Obligations.PidInitZeroesItsContext : Prop :=
  (∀ c : Idx, c.toNat < 4 → encode (.pidInit c) = 0x00000010 + BitVec.ofNat 32 (256 * c.toNat)) ∧
  ∀ (c : Idx) (s : State),
    (∀ h : c.toNat < 4, exec (.pidInit c) s =
      .next { s with errSum := s.errSum.set c.toNat 0 h, errLast := s.errLast.set c.toNat 0 h }) ∧
    (4 ≤ c.toNat → exec (.pidInit c) s = .next s)

/-- 43_pid.md R162: PID.UPD, in the rule's own pseudocode; it writes RESULT and its context only; with an `idx` of 4..7
nothing changes. -/
def Obligations.PidUpdateFollowsItsRule : Prop :=
  (∀ c : Idx, c.toNat < 4 → encode (.pidUpd c) = 0x00000011 + BitVec.ofNat 32 (256 * c.toNat)) ∧
  ∀ (c : Idx) (s : State),
    (∀ h : c.toNat < 4,
      let kp := (s.args[0]).toInt
      let ki := (s.args[1]).toInt
      let kd := (s.args[2]).toInt
      let cur := (s.args[3]).toInt
      let tgt := (s.args[4]).toInt
      let err := max (-2147483648) (min 2147483647 (tgt - cur))
      let es := max (-1000000) (min 1000000 ((s.errSum[c.toNat]'h).toInt + err))
      let de := err - (s.errLast[c.toNat]'h).toInt
      let sum := err * kp + es * ki + de * kd
      exec (.pidUpd c) s = .next { s with
        result := BitVec.ofInt 32 (max (-2147483648) (min 2147483647 ((sum + 500).tdiv 1000)))
        errSum := s.errSum.set c.toNat (BitVec.ofInt 32 es) h
        errLast := s.errLast.set c.toNat (BitVec.ofInt 32 err) h }) ∧
    (4 ≤ c.toNat → exec (.pidUpd c) s = .next s)

/-- 43_pid.md section 3 (the document's test property as derived there): with gains 1.0, 0, 0 the output is the saturated
error, plus one unit when it is negative, and depends on no history; the integral accumulates, clamped, all the same. -/
def Obligations.PidUnitGainReturnsTheError : Prop :=
  ∀ (c : Idx) (h : c.toNat < 4) (s : State), (s.args[0]).toInt = 1000 → (s.args[1]).toInt = 0 → (s.args[2]).toInt = 0 →
    ∃ t, exec (.pidUpd c) s = .next t ∧
      let err := max (-2147483648) (min 2147483647 ((s.args[4]).toInt - (s.args[3]).toInt))
      t.result.toInt = (if 0 ≤ err then err else err + 1) ∧ (t.errLast[c.toNat]'h).toInt = err ∧
      (t.errSum[c.toNat]'h).toInt = max (-1000000) (min 1000000 ((s.errSum[c.toNat]'h).toInt + err))

/-- 43_pid.md section 3 (negative sums, derived there): with kd = 0 and the integral gain 0 the sum is err x kp, and RESULT
is its thousandth rounded as the opposite-sign row of rdiv says, saturated. -/
def Obligations.PidProportionalRounding : Prop :=
  ∀ (c : Idx) (s : State), c.toNat < 4 → (s.args[1]).toInt = 0 → (s.args[2]).toInt = 0 →
    ∃ t, exec (.pidUpd c) s = .next t ∧
      let err := max (-2147483648) (min 2147483647 ((s.args[4]).toInt - (s.args[3]).toInt))
      let sum := err * (s.args[0]).toInt
      t.result.toInt = max (-2147483648) (min 2147483647
        (if 0 ≤ sum then (sum + 500) / 1000 else if 500 ≤ -sum then -((-sum - 500) / 1000) else 0))

/-- 10_state.md R28, R29 and 43_pid.md R160: only the two PID commands write a context, each its own; what PID.UPD answers
and stores depends on no other context. -/
def Obligations.PidContextsAreIndependent : Prop :=
  (∀ (c : Idx) (s t : State), exec (.pidInit c) s = .next t ∨ exec (.pidUpd c) s = .next t →
    ∀ k : Fin 4, k.val ≠ c.toNat → t.errSum[k] = s.errSum[k] ∧ t.errLast[k] = s.errLast[k]) ∧
  (∀ (i : Instr) (s t : State), (∀ c, i ≠ .pidInit c ∧ i ≠ .pidUpd c) → exec i s = .next t →
    t.errSum = s.errSum ∧ t.errLast = s.errLast) ∧
  (∀ s t : State, tickStep s = .next t → t.errSum = s.errSum ∧ t.errLast = s.errLast) ∧
  ∀ (c : Idx) (k : Fin 4) (s s' t t' : State), c.toNat = k.val → s'.args = s.args → s'.errSum[k] = s.errSum[k] →
    s'.errLast[k] = s.errLast[k] → exec (.pidUpd c) s = .next t → exec (.pidUpd c) s' = .next t' →
    t'.result = t.result ∧ t'.errSum[k] = t.errSum[k] ∧ t'.errLast[k] = t.errLast[k]

/-! ### ESC commands -/

/-- 44_esc.md R181: ESC.START, every assignment of the rule and nothing else. -/
def Obligations.EscStartBeginsAFrame : Prop :=
  encode .escStart = 0x00000020 ∧
  ∀ s : State, exec .escStart s = .next { s with
    compare := BitVec.ofNat 32 ((s.timer.toNat + s.build.leadTicks) % 2 ^ 32), channelIndex := 0, elapsed := 0,
    doneFlag := false, seqRun := true, srRst := false, seqPhase := .settle, seqWait := s.build.tSettle }

/-- 44_esc.md section 2 (the pin sequence, derived there): the levels of the pins in each of the LEAD_TICKS ticks after an
ESC.START, for every build the spec is about. No input is left, so that every step of the run is a TICK (the model's
choice, log 2). -/
def Obligations.EscStartPinSequence : Prop :=
  ∀ s s0 : State, Inv s → s.seqPhase = .idle → s.inbox = [] → exec .escStart s = .next s0 →
    ∀ n ≤ s.build.leadTicks, ∃ t : State, Host.Core.run core n s0 = .next t ∧
      let p := s.build.tPad
      let e := s.build.tSettle
      (n < e → t.srRst = false ∧ t.srData = false ∧ t.srClk = false ∧ t.seqPhase ≠ .idle) ∧
      (e ≤ n ∧ n < e + p → t.srRst = s.safetyArmed ∧ t.srData = true ∧ t.srClk = false ∧ t.seqPhase ≠ .idle) ∧
      (e + p ≤ n ∧ n < e + 2 * p → t.srRst = s.safetyArmed ∧ t.srData = true ∧ t.srClk = true ∧ t.seqPhase ≠ .idle) ∧
      (e + 2 * p ≤ n ∧ n < e + 3 * p → t.srRst = s.safetyArmed ∧ t.srData = true ∧ t.srClk = false ∧ t.seqPhase ≠ .idle) ∧
      (e + 3 * p ≤ n → t.srRst = s.safetyArmed ∧ t.srData = false ∧ t.srClk = false ∧ t.seqPhase = .idle) ∧
      (n < s.build.leadTicks → t.escOut = s.escOut) ∧ (n = s.build.leadTicks → t.escOut = !s.escOut)

/-- 44_esc.md R184: ESC.SAFE sets the flag; disarming lowers SR_RST in the same step; an `idx` of 2..7 changes nothing. -/
def Obligations.EscSafeArmsAndDisarms : Prop :=
  encode (.escSafe 0) = 0x00000021 ∧ encode (.escSafe 1) = 0x00000121 ∧
  ∀ s : State, exec (.escSafe 0) s = .next { s with safetyArmed := false, srRst := false } ∧
    exec (.escSafe 1) s = .next { s with safetyArmed := true } ∧
    ∀ a : Idx, 2 ≤ a.toNat → exec (.escSafe a) s = .next s

/-- 44_esc.md section 3 (the interlock property, derived there): on every run, whatever the host does and however the
ticks fall, the reset line is low whenever the interlock is disarmed; and the line rises only in the SETTLE action of a
TICK step, with the interlock armed. -/
def Obligations.DisarmedNeverRaisesTheResetLine : Prop :=
  (∀ (n : Nat) (s t : State), InterlockHolds s → Host.Core.run core n s = .next t → InterlockHolds t) ∧
  ∀ s t : State, step s = .next t → s.srRst = false → t.srRst = true →
    s.safetyArmed = true ∧ t.safetyArmed = true ∧ s.seqPhase = .settle ∧ t.seqPhase = .pad1 ∧ t.timer = s.timer + 1

/-- 44_esc.md R186: ESC.SETW stores the signed ARG0 clamped into [2 x BASE_TICK, 4 x BASE_TICK], for every channel, and
writes nothing else. -/
def Obligations.EscSetwStoresTheClampedWidth : Prop :=
  (∀ ch : Idx, encode (.escSetw ch) = 0x00000022 + BitVec.ofNat 32 (256 * ch.toNat)) ∧
  ∀ (ch : Idx) (s : State), BuildValid s.build → ∃ v : Word,
    exec (.escSetw ch) s = .next { s with width := s.width.set ch.toNat v ch.isLt } ∧
    (v.toNat : Int) = min (max (s.args[0]).toInt (2 * s.build.baseTick)) (4 * s.build.baseTick)

/-- 44_esc.md R187: ESC.TOTAL is the sum of the first 4 + extra widths, between 8 and 32 times BASE_TICK; it writes RESULT
only. -/
def Obligations.EscTotalSumsTheActiveWidths : Prop :=
  encode .escTotal = 0x00000023 ∧
  ∀ s : State, Inv s → ∃ v : Word,
    exec .escTotal s = .next { s with result := v } ∧
    v.toInt = (s.width[0]).toNat + (s.width[1]).toNat + (s.width[2]).toNat + (s.width[3]).toNat +
      (if 1 ≤ s.extra.toNat then ((s.width[4]).toNat : Int) else 0) +
      (if 2 ≤ s.extra.toNat then ((s.width[5]).toNat : Int) else 0) +
      (if 3 ≤ s.extra.toNat then ((s.width[6]).toNat : Int) else 0) +
      (if 4 ≤ s.extra.toNat then ((s.width[7]).toNat : Int) else 0) ∧
    8 * (s.build.baseTick : Int) ≤ v.toInt ∧ v.toInt ≤ 32 * s.build.baseTick

/-- 44_esc.md R188: ESC.SETX stores min(n, 4), and writes nothing else. -/
def Obligations.EscSetxClampsTheCount : Prop :=
  (∀ n : Idx, encode (.escSetx n) = 0x00000024 + BitVec.ofNat 32 (256 * n.toNat)) ∧
  ∀ (n : Idx) (s : State), ∃ v : BitVec 3, exec (.escSetx n) s = .next { s with extra := v } ∧ v.toNat = min n.toNat 4

/-- 44_esc.md R189: ESC.ISDONE answers done_flag as 0 or 1 and does not clear it. -/
def Obligations.EscIsdoneAnswersTheFlag : Prop :=
  encode .escIsdone = 0x00000025 ∧
  ∀ s : State, exec .escIsdone s = .next { s with result := if s.doneFlag then 1 else 0 }

/-- 44_esc.md R190: ESC.CLRDONE clears done_flag and nothing else: seq_run stays as it is. -/
def Obligations.EscClrdoneClearsOnlyTheFlag : Prop :=
  encode .escClrdone = 0x00000026 ∧ ∀ s : State, exec .escClrdone s = .next { s with doneFlag := false }

/-! ### The TICK step -/

/-- 60_exceptions.md R220: the three parts of a TICK step in their order, on the timer value just written; with neither
(2) nor (3) it changes only the timer. -/
def Obligations.TickRunsTimerEngineMatchInOrder : Prop :=
  ∀ s : State,
    let s1 : State := { s with timer := s.timer + 1 }
    let s2 : State := if s.seqPhase = .idle then s1
      else if s.seqWait - 1 = 0 then phaseAction { s1 with seqWait := s.seqWait - 1 }
      else { s1 with seqWait := s.seqWait - 1 }
    tickStep s = (if s2.seqRun = true ∧ s2.timer = s2.compare then compareMatch s2 else .next s2) ∧
    (s.seqPhase = .idle → ¬ (s.seqRun = true ∧ s.timer + 1 = s.compare) → tickStep s = .next s1)

/-- 20_memory.md section 4, R73 (the model's reading of the one total order, log 2): a step with no input left is a TICK,
and a TICK in the order is that step. -/
def Obligations.StepTakesTheNextInput : Prop :=
  (∀ s : State, s.inbox = [] → step s = tickStep s) ∧
  ∀ (s : State) (rest : List Input), s.inbox = .tick :: rest → step s = tickStep { s with inbox := rest }

/-- 60_exceptions.md R220, R221 and R224: with the engine idle and no match acted on, because no frame runs or because the
timer has not reached the compare register, a TICK step changes only the timer. -/
def Obligations.QuietTickChangesOnlyTheTimer : Prop :=
  ∀ s : State, s.seqPhase = .idle → (s.seqRun = false ∨ s.timer + 1 ≠ s.compare) →
    tickStep s = .next { s with timer := s.timer + 1 }

/-- 60_exceptions.md R220, R227 to R231: the reset-sequence engine counts in every TICK step and does the action of its
phase when the count reaches 0, in every phase, from a state of the invariant. -/
def Obligations.EngineRunsTheResetSequence : Prop :=
  ∀ s : State, Inv s → s.seqPhase ≠ .idle →
    (1 < s.seqWait → tickStep s = .next { s with timer := s.timer + 1, seqWait := s.seqWait - 1 }) ∧
    (s.seqWait = 1 → s.seqPhase = .settle → tickStep s = .next { s with
      timer := s.timer + 1, srRst := if s.safetyArmed then true else s.srRst, srData := true, seqPhase := .pad1,
      seqWait := s.build.tPad }) ∧
    (s.seqWait = 1 → s.seqPhase = .pad1 → tickStep s = .next { s with
      timer := s.timer + 1, srClk := true, seqPhase := .pad2, seqWait := s.build.tPad }) ∧
    (s.seqWait = 1 → s.seqPhase = .pad2 → tickStep s = .next { s with
      timer := s.timer + 1, srClk := false, seqPhase := .pad3, seqWait := s.build.tPad }) ∧
    (s.seqWait = 1 → s.seqPhase = .pad3 → tickStep s = .next { s with
      timer := s.timer + 1, srData := false, seqPhase := .idle, seqWait := 0 })

/-- 60_exceptions.md R223: the compare-match transition with its three outcomes (advance, repeat, stop), from a state of
the invariant in which the match is due; no counter wraps but compare. -/
def Obligations.CompareMatchAdvancesRepeatsOrStops : Prop :=
  ∀ (s : State) (w : Word), Inv s → s.seqRun = true → s.timer + 1 = s.compare →
    s.width[s.channelIndex.toNat]? = some w → ∃ t, tickStep s = .next t ∧
      let next := s.channelIndex.toNat + 1
      let total := s.elapsed.toNat + w.toNat
      let due := 4 + s.extra.toNat ≤ next
      let exceeded := s.build.frameTicks < total
      t = { s with
        timer := s.timer + 1, escOut := !s.escOut, compare := s.compare + w, elapsed := s.elapsed + w,
        channelIndex := t.channelIndex, doneFlag := t.doneFlag, seqRun := t.seqRun } ∧
      t.elapsed.toNat = total ∧
      (¬ due → t.channelIndex.toNat = next ∧ t.doneFlag = false ∧ t.seqRun = true) ∧
      (due ∧ exceeded → t.channelIndex.toNat = next ∧ t.doneFlag = true ∧ t.seqRun = false) ∧
      (due ∧ ¬ exceeded → t.channelIndex = s.channelIndex ∧ t.doneFlag = false ∧ t.seqRun = true)

/-- 60_exceptions.md R224: done_flag rises only in a compare-match transition that exceeds the frame budget with the index
at the active count, and seq_run falls in the same step. -/
def Obligations.FrameEndsOnlyPastItsBudget : Prop :=
  ∀ s t : State, step s = .next t → s.doneFlag = false → t.doneFlag = true →
    s.seqRun = true ∧ t.seqRun = false ∧ t.timer = s.timer + 1 ∧ t.timer = s.compare ∧ t.escOut = !s.escOut ∧
    s.build.frameTicks < t.elapsed.toNat ∧ 4 + s.extra.toNat ≤ t.channelIndex.toNat ∧
    t.channelIndex.toNat = s.channelIndex.toNat + 1

/-- 44_esc.md R193 and 10_state.md R36: ESC_OUT changes in a compare match and at no other time (but for a reset). -/
def Obligations.OutputTogglesExactlyAtAMatch : Prop :=
  ∀ s t : State, step s = .next t → s.inbox.head? ≠ some .reset →
    (t.escOut ≠ s.escOut ↔ t.timer = s.timer + 1 ∧ s.seqRun = true ∧ t.timer = s.compare)

/-- 60_exceptions.md section 3 (no match is missed, derived there): while a frame runs, the next match falls exactly
`compare - timer` ticks later, nothing toggles before it, and it adds the current channel's width. No input is left, so
that every step of the run is a TICK (the model's choice, log 2). -/
def Obligations.MatchFallsExactlyWhenDue : Prop :=
  ∀ (s : State) (w : Word), Inv s → s.seqRun = true → s.inbox = [] → s.width[s.channelIndex.toNat]? = some w →
    let n := (s.compare - s.timer).toNat
    1 ≤ n ∧
    (∀ k < n, ∃ t : State, Host.Core.run core k s = .next t ∧ t.escOut = s.escOut ∧ t.elapsed = s.elapsed ∧ t.seqRun = true ∧
      t.compare = s.compare ∧ t.channelIndex = s.channelIndex) ∧
    ∃ t : State, Host.Core.run core n s = .next t ∧ t.escOut = !s.escOut ∧ t.timer = s.compare ∧ t.compare = s.compare + w ∧
      t.elapsed.toNat = s.elapsed.toNat + w.toNat

/-- 44_esc.md section 8 (length of a frame, derived there): a frame in which nothing is changed ends, with done_flag set,
in exactly the tick of its last match, with the elapsed count, the final index and the parity of ESC_OUT of the table;
one tick before, it still runs. No input is left, so that every step of the run is a TICK (the model's choice, log 2). -/
def Obligations.FrameLengthFollowsTheWidths : Prop :=
  ∀ s s0 : State, Inv s → s.seqPhase = .idle → s.inbox = [] → exec .escStart s = .next s0 →
    let n := 4 + s.extra.toNat
    let W := ((s.width.toList.take n).map BitVec.toNat).sum
    let w := ((s.width.toList.map BitVec.toNat).getD (n - 1) 0)
    let F := s.build.frameTicks
    let j := if F < W then 0 else (F - W) / w + 1
    let last := s.build.leadTicks + (W + j * w - w)
    (∃ t : State, Host.Core.run core last s0 = .next t ∧ t.doneFlag = true ∧ t.seqRun = false ∧
      t.elapsed.toNat = W + j * w ∧ t.channelIndex.toNat = n ∧
      t.escOut = (if (n + j) % 2 = 1 then !s.escOut else s.escOut)) ∧
    ∃ t : State, Host.Core.run core (last - 1) s0 = .next t ∧ t.doneFlag = false ∧ t.seqRun = true
end

