-- ==== Sys2Proof/Laws/Arith.lean ====
section
/-! SUPPORT. What the integer primitives give (00_scope.md R11) and the two forms of the rounding division
that proofs use (40_scaled_arith.md R111). -/

namespace Sys2Proof.Laws

open Sys2Proof.Machine

/-- Saturation as a minimum and a maximum (R11). -/
theorem sat32_eq (v : Int) : sat32 v = max (-2147483648) (min 2147483647 v) := by
  simp only [sat32, clamp, Config.intMin, Config.intMax]; omega

/-- A signed register gives back a value of its range (R10). -/
theorem signedWord_toInt {v : Int} (h : -2147483648 ≤ v) (h' : v ≤ 2147483647) : (signedWord v).toInt = v := by
  simp only [signedWord]
  exact BitVec.toInt_ofInt_eq_self (by decide) (by simpa using h) (by simp; omega)

/-- An operand is a signed 32-bit value (R20). -/
theorem argInt_range (s : State) (k : Fin 5) : -2147483648 ≤ argInt s k ∧ argInt s k ≤ 2147483647 := by
  have := BitVec.le_toInt (s.args[k]); have := BitVec.toInt_lt (x := s.args[k])
  simp only [argInt]; omega

/-- The rounding division by the signs of its operands (R111). -/
theorem rdiv_sign {p d : Int} (hd : d ≠ 0) : rdiv p d = 
   (if (0 ≤ p ∧ 0 < d) ∨ (p ≤ 0 ∧ d < 0) then (((p.natAbs + d.natAbs / 2) / d.natAbs : Nat) : Int)
      else if d.natAbs / 2 ≤ p.natAbs then -(((p.natAbs - d.natAbs / 2) / d.natAbs : Nat) : Int) else 0 : Int) := by
  unfold rdiv tdiv
  obtain ⟨P, hP⟩ : ∃ P, P = p.natAbs := ⟨_, rfl⟩
  obtain ⟨D, hD⟩ : ∃ D, D = d.natAbs := ⟨_, rfl⟩
  rw [← hP, ← hD]
  have key : ∀ a b : Nat, (Int.tdiv (a:Int) (b:Int)) = ((a / b : Nat) : Int) := fun a b => by simp
  have hpos : 0 < D := by omega
  rcases Int.lt_or_gt_of_ne hd with hneg | hp'
  · have ed : d = -(D:Int) := by omega
    rw [ed, Int.neg_tdiv, show ((2:Int)) = ((2:Nat):Int) from rfl, key, Int.tdiv_neg]
    by_cases hp : p ≤ 0
    · have ep : p = -(P:Int) := by omega
      rw [ep, if_pos (by omega), ← Int.neg_add, Int.neg_tdiv, ← Int.natCast_add, key]; simp
    · have ep : p = (P:Int) := by omega
      rw [if_neg (by omega), ep]
      split
      · rename_i h
        rw [show ((P:Int) + -((D/2:Nat):Int)) = ((P - D/2 : Nat):Int) by omega, key]
      · rename_i h
        rw [show ((P:Int) + -((D/2:Nat):Int)) = -((D/2 - P : Nat):Int) by omega, Int.neg_tdiv, key]
        rw [Nat.div_eq_of_lt (by omega)]; rfl
  · have ed : d = (D:Int) := by omega
    rw [ed, show ((2:Int)) = ((2:Nat):Int) from rfl, key]
    by_cases hp : 0 ≤ p
    · have ep : p = (P:Int) := by omega
      rw [ep, if_pos (by omega), ← Int.natCast_add, key]
    · have ep : p = -(P:Int) := by omega
      rw [ep, if_neg (by omega)]
      split
      · rename_i h
        rw [show (-(P:Int) + ((D/2:Nat):Int)) = -((P - D/2 : Nat):Int) by omega, Int.neg_tdiv, key]
      · rename_i h
        rw [show (-(P:Int) + ((D/2:Nat):Int)) = ((D/2 - P : Nat):Int) by omega, key]
        rw [Nat.div_eq_of_lt (by omega)]; rfl

/-- The rounding division of magnitudes is the quotient rounded half up (R111). -/
theorem rdiv_nat (a b : Nat) : rdiv a b = ((a + b / 2) / b : Nat) := by
  unfold rdiv tdiv
  have key : ∀ a b : Nat, (Int.tdiv (a:Int) (b:Int)) = ((a / b : Nat) : Int) := fun a b => by simp
  rw [show ((2:Int)) = ((2:Nat):Int) from rfl, key, ← Int.natCast_add, key]

end Sys2Proof.Laws
end

