-- ==== Sys2Proof/Laws/Encoding.lean ====
section
/-! SUPPORT. The fields of a command word: a word is its three fields, and the fields of a word put together are the parts
(R90). -/

namespace Sys2Proof.Laws

@[simp] theorem zeroField_append (z : BitVec 21) (x : Idx) (o : BitVec 8) : zeroField (z ++ x ++ o) = z := by
  apply BitVec.eq_of_getLsbD_eq
  intro i hi
  have h1 : ¬ (11 + i < 8) := by omega
  have h2 : ¬ (11 + i - 8 < 3) := by omega
  have h3 : 11 + i - 8 - 3 = i := by omega
  rw [zeroField, BitVec.getLsbD_extractLsb', BitVec.getLsbD_append, BitVec.getLsbD_append]
  simp [h1, h2, h3, hi]

@[simp] theorem idxField_append (z : BitVec 21) (x : Idx) (o : BitVec 8) : idxField (z ++ x ++ o) = x := by
  apply BitVec.eq_of_getLsbD_eq
  intro i hi
  have h3 : 8 + i - 8 = i := by omega
  rw [idxField, BitVec.getLsbD_extractLsb', BitVec.getLsbD_append, BitVec.getLsbD_append]
  simp [h3, hi]

@[simp] theorem opcodeField_append (z : BitVec 21) (x : Idx) (o : BitVec 8) : opcodeField (z ++ x ++ o) = o := by
  apply BitVec.eq_of_getLsbD_eq
  intro i hi
  rw [opcodeField, BitVec.getLsbD_extractLsb', BitVec.getLsbD_append]
  simp [hi]

/-- A word is its `zero`, `idx` and `opcode` fields, one after the other (R90). -/
theorem word_eq_fields (w : Word) : w = zeroField w ++ idxField w ++ opcodeField w := by
  apply BitVec.eq_of_getLsbD_eq
  intro i hi
  rw [BitVec.getLsbD_append, BitVec.getLsbD_append, zeroField, idxField, opcodeField]
  simp only [BitVec.getLsbD_extractLsb']
  split
  · simp_all
  · split
    · have : 8 + (i - 8) = i := by omega
      simp_all
    · have h : 11 + (i - 8 - 3) = i := by omega
      have h' : i - 8 - 3 < 21 := by omega
      simp [h, h']

/-- Two words are equal exactly when their fields are. -/
theorem append_eq_iff (z z' : BitVec 21) (x x' : Idx) (o o' : BitVec 8) :
    (z ++ x ++ o : Word) = z' ++ x' ++ o' ↔ z = z' ∧ x = x' ∧ o = o' := by
  constructor
  · intro h
    have h1 := congrArg zeroField h
    have h2 := congrArg idxField h
    have h3 := congrArg opcodeField h
    simp only [zeroField_append, idxField_append, opcodeField_append] at h1 h2 h3
    exact ⟨h1, h2, h3⟩
  · rintro ⟨rfl, rfl, rfl⟩
    rfl

/-- A word and a mask meet field by field. -/
theorem and_append (z mz : BitVec 21) (x mx : Idx) (o mo : BitVec 8) :
    (z ++ x ++ o : Word) &&& (mz ++ mx ++ mo) = (z &&& mz) ++ (x &&& mx) ++ (o &&& mo) := by
  apply BitVec.eq_of_getLsbD_eq
  intro i hi
  simp only [BitVec.getLsbD_and, BitVec.getLsbD_append]
  split
  · rfl
  · split <;> rfl

end Sys2Proof.Laws
end

