-- ==== Sys2Proof/Laws/State.lean ====
section
/-! SUPPORT. What each named update of the state leaves in each field: one lemma a field, true by definition. -/

namespace Sys2Proof.Laws

open Sys2Proof.Machine

/-! ### writeArg -/

@[simp] theorem writeArg_build (s : State) (i : Fin 5) (v : Word) : (writeArg s i v).build = s.build := rfl
@[simp] theorem writeArg_args (s : State) (i : Fin 5) (v : Word) : (writeArg s i v).args = s.args.set i v := rfl
@[simp] theorem writeArg_result (s : State) (i : Fin 5) (v : Word) : (writeArg s i v).result = s.result := rfl
@[simp] theorem writeArg_errSum (s : State) (i : Fin 5) (v : Word) : (writeArg s i v).errSum = s.errSum := rfl
@[simp] theorem writeArg_errLast (s : State) (i : Fin 5) (v : Word) : (writeArg s i v).errLast = s.errLast := rfl
@[simp] theorem writeArg_width (s : State) (i : Fin 5) (v : Word) : (writeArg s i v).width = s.width := rfl
@[simp] theorem writeArg_channelIndex (s : State) (i : Fin 5) (v : Word) : (writeArg s i v).channelIndex = s.channelIndex := rfl
@[simp] theorem writeArg_elapsed (s : State) (i : Fin 5) (v : Word) : (writeArg s i v).elapsed = s.elapsed := rfl
@[simp] theorem writeArg_doneFlag (s : State) (i : Fin 5) (v : Word) : (writeArg s i v).doneFlag = s.doneFlag := rfl
@[simp] theorem writeArg_safetyArmed (s : State) (i : Fin 5) (v : Word) : (writeArg s i v).safetyArmed = s.safetyArmed := rfl
@[simp] theorem writeArg_extra (s : State) (i : Fin 5) (v : Word) : (writeArg s i v).extra = s.extra := rfl
@[simp] theorem writeArg_seqRun (s : State) (i : Fin 5) (v : Word) : (writeArg s i v).seqRun = s.seqRun := rfl
@[simp] theorem writeArg_seqPhase (s : State) (i : Fin 5) (v : Word) : (writeArg s i v).seqPhase = s.seqPhase := rfl
@[simp] theorem writeArg_seqWait (s : State) (i : Fin 5) (v : Word) : (writeArg s i v).seqWait = s.seqWait := rfl
@[simp] theorem writeArg_timer (s : State) (i : Fin 5) (v : Word) : (writeArg s i v).timer = s.timer := rfl
@[simp] theorem writeArg_compare (s : State) (i : Fin 5) (v : Word) : (writeArg s i v).compare = s.compare := rfl
@[simp] theorem writeArg_escOut (s : State) (i : Fin 5) (v : Word) : (writeArg s i v).escOut = s.escOut := rfl
@[simp] theorem writeArg_srData (s : State) (i : Fin 5) (v : Word) : (writeArg s i v).srData = s.srData := rfl
@[simp] theorem writeArg_srClk (s : State) (i : Fin 5) (v : Word) : (writeArg s i v).srClk = s.srClk := rfl
@[simp] theorem writeArg_srRst (s : State) (i : Fin 5) (v : Word) : (writeArg s i v).srRst = s.srRst := rfl
@[simp] theorem writeArg_rdata (s : State) (i : Fin 5) (v : Word) : (writeArg s i v).rdata = s.rdata := rfl
@[simp] theorem writeArg_inbox (s : State) (i : Fin 5) (v : Word) : (writeArg s i v).inbox = s.inbox := rfl

/-! ### writeResult -/

@[simp] theorem writeResult_build (s : State) (v : Int) : (writeResult s v).build = s.build := rfl
@[simp] theorem writeResult_args (s : State) (v : Int) : (writeResult s v).args = s.args := rfl
@[simp] theorem writeResult_result (s : State) (v : Int) : (writeResult s v).result = signedWord v := rfl
@[simp] theorem writeResult_errSum (s : State) (v : Int) : (writeResult s v).errSum = s.errSum := rfl
@[simp] theorem writeResult_errLast (s : State) (v : Int) : (writeResult s v).errLast = s.errLast := rfl
@[simp] theorem writeResult_width (s : State) (v : Int) : (writeResult s v).width = s.width := rfl
@[simp] theorem writeResult_channelIndex (s : State) (v : Int) : (writeResult s v).channelIndex = s.channelIndex := rfl
@[simp] theorem writeResult_elapsed (s : State) (v : Int) : (writeResult s v).elapsed = s.elapsed := rfl
@[simp] theorem writeResult_doneFlag (s : State) (v : Int) : (writeResult s v).doneFlag = s.doneFlag := rfl
@[simp] theorem writeResult_safetyArmed (s : State) (v : Int) : (writeResult s v).safetyArmed = s.safetyArmed := rfl
@[simp] theorem writeResult_extra (s : State) (v : Int) : (writeResult s v).extra = s.extra := rfl
@[simp] theorem writeResult_seqRun (s : State) (v : Int) : (writeResult s v).seqRun = s.seqRun := rfl
@[simp] theorem writeResult_seqPhase (s : State) (v : Int) : (writeResult s v).seqPhase = s.seqPhase := rfl
@[simp] theorem writeResult_seqWait (s : State) (v : Int) : (writeResult s v).seqWait = s.seqWait := rfl
@[simp] theorem writeResult_timer (s : State) (v : Int) : (writeResult s v).timer = s.timer := rfl
@[simp] theorem writeResult_compare (s : State) (v : Int) : (writeResult s v).compare = s.compare := rfl
@[simp] theorem writeResult_escOut (s : State) (v : Int) : (writeResult s v).escOut = s.escOut := rfl
@[simp] theorem writeResult_srData (s : State) (v : Int) : (writeResult s v).srData = s.srData := rfl
@[simp] theorem writeResult_srClk (s : State) (v : Int) : (writeResult s v).srClk = s.srClk := rfl
@[simp] theorem writeResult_srRst (s : State) (v : Int) : (writeResult s v).srRst = s.srRst := rfl
@[simp] theorem writeResult_rdata (s : State) (v : Int) : (writeResult s v).rdata = s.rdata := rfl
@[simp] theorem writeResult_inbox (s : State) (v : Int) : (writeResult s v).inbox = s.inbox := rfl

/-! ### writeContext -/

@[simp] theorem writeContext_build (s : State) (c : Fin 4) (es el : Int) : (writeContext s c es el).build = s.build := rfl
@[simp] theorem writeContext_args (s : State) (c : Fin 4) (es el : Int) : (writeContext s c es el).args = s.args := rfl
@[simp] theorem writeContext_result (s : State) (c : Fin 4) (es el : Int) : (writeContext s c es el).result = s.result := rfl
@[simp] theorem writeContext_errSum (s : State) (c : Fin 4) (es el : Int) : (writeContext s c es el).errSum = s.errSum.set c (signedWord es) := rfl
@[simp] theorem writeContext_errLast (s : State) (c : Fin 4) (es el : Int) : (writeContext s c es el).errLast = s.errLast.set c (signedWord el) := rfl
@[simp] theorem writeContext_width (s : State) (c : Fin 4) (es el : Int) : (writeContext s c es el).width = s.width := rfl
@[simp] theorem writeContext_channelIndex (s : State) (c : Fin 4) (es el : Int) : (writeContext s c es el).channelIndex = s.channelIndex := rfl
@[simp] theorem writeContext_elapsed (s : State) (c : Fin 4) (es el : Int) : (writeContext s c es el).elapsed = s.elapsed := rfl
@[simp] theorem writeContext_doneFlag (s : State) (c : Fin 4) (es el : Int) : (writeContext s c es el).doneFlag = s.doneFlag := rfl
@[simp] theorem writeContext_safetyArmed (s : State) (c : Fin 4) (es el : Int) : (writeContext s c es el).safetyArmed = s.safetyArmed := rfl
@[simp] theorem writeContext_extra (s : State) (c : Fin 4) (es el : Int) : (writeContext s c es el).extra = s.extra := rfl
@[simp] theorem writeContext_seqRun (s : State) (c : Fin 4) (es el : Int) : (writeContext s c es el).seqRun = s.seqRun := rfl
@[simp] theorem writeContext_seqPhase (s : State) (c : Fin 4) (es el : Int) : (writeContext s c es el).seqPhase = s.seqPhase := rfl
@[simp] theorem writeContext_seqWait (s : State) (c : Fin 4) (es el : Int) : (writeContext s c es el).seqWait = s.seqWait := rfl
@[simp] theorem writeContext_timer (s : State) (c : Fin 4) (es el : Int) : (writeContext s c es el).timer = s.timer := rfl
@[simp] theorem writeContext_compare (s : State) (c : Fin 4) (es el : Int) : (writeContext s c es el).compare = s.compare := rfl
@[simp] theorem writeContext_escOut (s : State) (c : Fin 4) (es el : Int) : (writeContext s c es el).escOut = s.escOut := rfl
@[simp] theorem writeContext_srData (s : State) (c : Fin 4) (es el : Int) : (writeContext s c es el).srData = s.srData := rfl
@[simp] theorem writeContext_srClk (s : State) (c : Fin 4) (es el : Int) : (writeContext s c es el).srClk = s.srClk := rfl
@[simp] theorem writeContext_srRst (s : State) (c : Fin 4) (es el : Int) : (writeContext s c es el).srRst = s.srRst := rfl
@[simp] theorem writeContext_rdata (s : State) (c : Fin 4) (es el : Int) : (writeContext s c es el).rdata = s.rdata := rfl
@[simp] theorem writeContext_inbox (s : State) (c : Fin 4) (es el : Int) : (writeContext s c es el).inbox = s.inbox := rfl

/-! ### writeWidth -/

@[simp] theorem writeWidth_build (s : State) (ch : Fin 8) (v : Int) : (writeWidth s ch v).build = s.build := rfl
@[simp] theorem writeWidth_args (s : State) (ch : Fin 8) (v : Int) : (writeWidth s ch v).args = s.args := rfl
@[simp] theorem writeWidth_result (s : State) (ch : Fin 8) (v : Int) : (writeWidth s ch v).result = s.result := rfl
@[simp] theorem writeWidth_errSum (s : State) (ch : Fin 8) (v : Int) : (writeWidth s ch v).errSum = s.errSum := rfl
@[simp] theorem writeWidth_errLast (s : State) (ch : Fin 8) (v : Int) : (writeWidth s ch v).errLast = s.errLast := rfl
@[simp] theorem writeWidth_width (s : State) (ch : Fin 8) (v : Int) : (writeWidth s ch v).width = s.width.set ch (signedWord v) := rfl
@[simp] theorem writeWidth_channelIndex (s : State) (ch : Fin 8) (v : Int) : (writeWidth s ch v).channelIndex = s.channelIndex := rfl
@[simp] theorem writeWidth_elapsed (s : State) (ch : Fin 8) (v : Int) : (writeWidth s ch v).elapsed = s.elapsed := rfl
@[simp] theorem writeWidth_doneFlag (s : State) (ch : Fin 8) (v : Int) : (writeWidth s ch v).doneFlag = s.doneFlag := rfl
@[simp] theorem writeWidth_safetyArmed (s : State) (ch : Fin 8) (v : Int) : (writeWidth s ch v).safetyArmed = s.safetyArmed := rfl
@[simp] theorem writeWidth_extra (s : State) (ch : Fin 8) (v : Int) : (writeWidth s ch v).extra = s.extra := rfl
@[simp] theorem writeWidth_seqRun (s : State) (ch : Fin 8) (v : Int) : (writeWidth s ch v).seqRun = s.seqRun := rfl
@[simp] theorem writeWidth_seqPhase (s : State) (ch : Fin 8) (v : Int) : (writeWidth s ch v).seqPhase = s.seqPhase := rfl
@[simp] theorem writeWidth_seqWait (s : State) (ch : Fin 8) (v : Int) : (writeWidth s ch v).seqWait = s.seqWait := rfl
@[simp] theorem writeWidth_timer (s : State) (ch : Fin 8) (v : Int) : (writeWidth s ch v).timer = s.timer := rfl
@[simp] theorem writeWidth_compare (s : State) (ch : Fin 8) (v : Int) : (writeWidth s ch v).compare = s.compare := rfl
@[simp] theorem writeWidth_escOut (s : State) (ch : Fin 8) (v : Int) : (writeWidth s ch v).escOut = s.escOut := rfl
@[simp] theorem writeWidth_srData (s : State) (ch : Fin 8) (v : Int) : (writeWidth s ch v).srData = s.srData := rfl
@[simp] theorem writeWidth_srClk (s : State) (ch : Fin 8) (v : Int) : (writeWidth s ch v).srClk = s.srClk := rfl
@[simp] theorem writeWidth_srRst (s : State) (ch : Fin 8) (v : Int) : (writeWidth s ch v).srRst = s.srRst := rfl
@[simp] theorem writeWidth_rdata (s : State) (ch : Fin 8) (v : Int) : (writeWidth s ch v).rdata = s.rdata := rfl
@[simp] theorem writeWidth_inbox (s : State) (ch : Fin 8) (v : Int) : (writeWidth s ch v).inbox = s.inbox := rfl

/-! ### timerStep -/

@[simp] theorem timerStep_build (s : State) : (timerStep s).build = s.build := rfl
@[simp] theorem timerStep_args (s : State) : (timerStep s).args = s.args := rfl
@[simp] theorem timerStep_result (s : State) : (timerStep s).result = s.result := rfl
@[simp] theorem timerStep_errSum (s : State) : (timerStep s).errSum = s.errSum := rfl
@[simp] theorem timerStep_errLast (s : State) : (timerStep s).errLast = s.errLast := rfl
@[simp] theorem timerStep_width (s : State) : (timerStep s).width = s.width := rfl
@[simp] theorem timerStep_channelIndex (s : State) : (timerStep s).channelIndex = s.channelIndex := rfl
@[simp] theorem timerStep_elapsed (s : State) : (timerStep s).elapsed = s.elapsed := rfl
@[simp] theorem timerStep_doneFlag (s : State) : (timerStep s).doneFlag = s.doneFlag := rfl
@[simp] theorem timerStep_safetyArmed (s : State) : (timerStep s).safetyArmed = s.safetyArmed := rfl
@[simp] theorem timerStep_extra (s : State) : (timerStep s).extra = s.extra := rfl
@[simp] theorem timerStep_seqRun (s : State) : (timerStep s).seqRun = s.seqRun := rfl
@[simp] theorem timerStep_seqPhase (s : State) : (timerStep s).seqPhase = s.seqPhase := rfl
@[simp] theorem timerStep_seqWait (s : State) : (timerStep s).seqWait = s.seqWait := rfl
@[simp] theorem timerStep_timer (s : State) : (timerStep s).timer = s.timer + 1 := rfl
@[simp] theorem timerStep_compare (s : State) : (timerStep s).compare = s.compare := rfl
@[simp] theorem timerStep_escOut (s : State) : (timerStep s).escOut = s.escOut := rfl
@[simp] theorem timerStep_srData (s : State) : (timerStep s).srData = s.srData := rfl
@[simp] theorem timerStep_srClk (s : State) : (timerStep s).srClk = s.srClk := rfl
@[simp] theorem timerStep_srRst (s : State) : (timerStep s).srRst = s.srRst := rfl
@[simp] theorem timerStep_rdata (s : State) : (timerStep s).rdata = s.rdata := rfl
@[simp] theorem timerStep_inbox (s : State) : (timerStep s).inbox = s.inbox := rfl

/-! ### countDown -/

@[simp] theorem countDown_build (s : State) : (countDown s).build = s.build := rfl
@[simp] theorem countDown_args (s : State) : (countDown s).args = s.args := rfl
@[simp] theorem countDown_result (s : State) : (countDown s).result = s.result := rfl
@[simp] theorem countDown_errSum (s : State) : (countDown s).errSum = s.errSum := rfl
@[simp] theorem countDown_errLast (s : State) : (countDown s).errLast = s.errLast := rfl
@[simp] theorem countDown_width (s : State) : (countDown s).width = s.width := rfl
@[simp] theorem countDown_channelIndex (s : State) : (countDown s).channelIndex = s.channelIndex := rfl
@[simp] theorem countDown_elapsed (s : State) : (countDown s).elapsed = s.elapsed := rfl
@[simp] theorem countDown_doneFlag (s : State) : (countDown s).doneFlag = s.doneFlag := rfl
@[simp] theorem countDown_safetyArmed (s : State) : (countDown s).safetyArmed = s.safetyArmed := rfl
@[simp] theorem countDown_extra (s : State) : (countDown s).extra = s.extra := rfl
@[simp] theorem countDown_seqRun (s : State) : (countDown s).seqRun = s.seqRun := rfl
@[simp] theorem countDown_seqPhase (s : State) : (countDown s).seqPhase = s.seqPhase := rfl
@[simp] theorem countDown_seqWait (s : State) : (countDown s).seqWait = s.seqWait - 1 := rfl
@[simp] theorem countDown_timer (s : State) : (countDown s).timer = s.timer := rfl
@[simp] theorem countDown_compare (s : State) : (countDown s).compare = s.compare := rfl
@[simp] theorem countDown_escOut (s : State) : (countDown s).escOut = s.escOut := rfl
@[simp] theorem countDown_srData (s : State) : (countDown s).srData = s.srData := rfl
@[simp] theorem countDown_srClk (s : State) : (countDown s).srClk = s.srClk := rfl
@[simp] theorem countDown_srRst (s : State) : (countDown s).srRst = s.srRst := rfl
@[simp] theorem countDown_rdata (s : State) : (countDown s).rdata = s.rdata := rfl
@[simp] theorem countDown_inbox (s : State) : (countDown s).inbox = s.inbox := rfl

/-! ### advanceChannel -/

@[simp] theorem advanceChannel_build (s : State) (w : Word) : (advanceChannel s w).build = s.build := rfl
@[simp] theorem advanceChannel_args (s : State) (w : Word) : (advanceChannel s w).args = s.args := rfl
@[simp] theorem advanceChannel_result (s : State) (w : Word) : (advanceChannel s w).result = s.result := rfl
@[simp] theorem advanceChannel_errSum (s : State) (w : Word) : (advanceChannel s w).errSum = s.errSum := rfl
@[simp] theorem advanceChannel_errLast (s : State) (w : Word) : (advanceChannel s w).errLast = s.errLast := rfl
@[simp] theorem advanceChannel_width (s : State) (w : Word) : (advanceChannel s w).width = s.width := rfl
@[simp] theorem advanceChannel_channelIndex (s : State) (w : Word) : (advanceChannel s w).channelIndex = s.channelIndex + 1 := rfl
@[simp] theorem advanceChannel_elapsed (s : State) (w : Word) : (advanceChannel s w).elapsed = s.elapsed + w := rfl
@[simp] theorem advanceChannel_doneFlag (s : State) (w : Word) : (advanceChannel s w).doneFlag = s.doneFlag := rfl
@[simp] theorem advanceChannel_safetyArmed (s : State) (w : Word) : (advanceChannel s w).safetyArmed = s.safetyArmed := rfl
@[simp] theorem advanceChannel_extra (s : State) (w : Word) : (advanceChannel s w).extra = s.extra := rfl
@[simp] theorem advanceChannel_seqRun (s : State) (w : Word) : (advanceChannel s w).seqRun = s.seqRun := rfl
@[simp] theorem advanceChannel_seqPhase (s : State) (w : Word) : (advanceChannel s w).seqPhase = s.seqPhase := rfl
@[simp] theorem advanceChannel_seqWait (s : State) (w : Word) : (advanceChannel s w).seqWait = s.seqWait := rfl
@[simp] theorem advanceChannel_timer (s : State) (w : Word) : (advanceChannel s w).timer = s.timer := rfl
@[simp] theorem advanceChannel_compare (s : State) (w : Word) : (advanceChannel s w).compare = s.compare + w := rfl
@[simp] theorem advanceChannel_escOut (s : State) (w : Word) : (advanceChannel s w).escOut = !s.escOut := rfl
@[simp] theorem advanceChannel_srData (s : State) (w : Word) : (advanceChannel s w).srData = s.srData := rfl
@[simp] theorem advanceChannel_srClk (s : State) (w : Word) : (advanceChannel s w).srClk = s.srClk := rfl
@[simp] theorem advanceChannel_srRst (s : State) (w : Word) : (advanceChannel s w).srRst = s.srRst := rfl
@[simp] theorem advanceChannel_rdata (s : State) (w : Word) : (advanceChannel s w).rdata = s.rdata := rfl
@[simp] theorem advanceChannel_inbox (s : State) (w : Word) : (advanceChannel s w).inbox = s.inbox := rfl

/-! ### startFrame -/

@[simp] theorem startFrame_build (s : State) : (startFrame s).build = s.build := rfl
@[simp] theorem startFrame_args (s : State) : (startFrame s).args = s.args := rfl
@[simp] theorem startFrame_result (s : State) : (startFrame s).result = s.result := rfl
@[simp] theorem startFrame_errSum (s : State) : (startFrame s).errSum = s.errSum := rfl
@[simp] theorem startFrame_errLast (s : State) : (startFrame s).errLast = s.errLast := rfl
@[simp] theorem startFrame_width (s : State) : (startFrame s).width = s.width := rfl
@[simp] theorem startFrame_channelIndex (s : State) : (startFrame s).channelIndex = 0 := rfl
@[simp] theorem startFrame_elapsed (s : State) : (startFrame s).elapsed = 0 := rfl
@[simp] theorem startFrame_doneFlag (s : State) : (startFrame s).doneFlag = false := rfl
@[simp] theorem startFrame_safetyArmed (s : State) : (startFrame s).safetyArmed = s.safetyArmed := rfl
@[simp] theorem startFrame_extra (s : State) : (startFrame s).extra = s.extra := rfl
@[simp] theorem startFrame_seqRun (s : State) : (startFrame s).seqRun = true := rfl
@[simp] theorem startFrame_seqPhase (s : State) : (startFrame s).seqPhase = .settle := rfl
@[simp] theorem startFrame_seqWait (s : State) : (startFrame s).seqWait = s.build.tSettle := rfl
@[simp] theorem startFrame_timer (s : State) : (startFrame s).timer = s.timer := rfl
@[simp] theorem startFrame_compare (s : State) : (startFrame s).compare = s.timer + BitVec.ofNat 32 s.build.leadTicks := rfl
@[simp] theorem startFrame_escOut (s : State) : (startFrame s).escOut = s.escOut := rfl
@[simp] theorem startFrame_srData (s : State) : (startFrame s).srData = s.srData := rfl
@[simp] theorem startFrame_srClk (s : State) : (startFrame s).srClk = s.srClk := rfl
@[simp] theorem startFrame_srRst (s : State) : (startFrame s).srRst = false := rfl
@[simp] theorem startFrame_rdata (s : State) : (startFrame s).rdata = s.rdata := rfl
@[simp] theorem startFrame_inbox (s : State) : (startFrame s).inbox = s.inbox := rfl

/-! ### setSafety -/

@[simp] theorem setSafety_build (a : Bool) (s : State) : (setSafety a s).build = s.build := rfl
@[simp] theorem setSafety_args (a : Bool) (s : State) : (setSafety a s).args = s.args := rfl
@[simp] theorem setSafety_result (a : Bool) (s : State) : (setSafety a s).result = s.result := rfl
@[simp] theorem setSafety_errSum (a : Bool) (s : State) : (setSafety a s).errSum = s.errSum := rfl
@[simp] theorem setSafety_errLast (a : Bool) (s : State) : (setSafety a s).errLast = s.errLast := rfl
@[simp] theorem setSafety_width (a : Bool) (s : State) : (setSafety a s).width = s.width := rfl
@[simp] theorem setSafety_channelIndex (a : Bool) (s : State) : (setSafety a s).channelIndex = s.channelIndex := rfl
@[simp] theorem setSafety_elapsed (a : Bool) (s : State) : (setSafety a s).elapsed = s.elapsed := rfl
@[simp] theorem setSafety_doneFlag (a : Bool) (s : State) : (setSafety a s).doneFlag = s.doneFlag := rfl
@[simp] theorem setSafety_safetyArmed (a : Bool) (s : State) : (setSafety a s).safetyArmed = a := rfl
@[simp] theorem setSafety_extra (a : Bool) (s : State) : (setSafety a s).extra = s.extra := rfl
@[simp] theorem setSafety_seqRun (a : Bool) (s : State) : (setSafety a s).seqRun = s.seqRun := rfl
@[simp] theorem setSafety_seqPhase (a : Bool) (s : State) : (setSafety a s).seqPhase = s.seqPhase := rfl
@[simp] theorem setSafety_seqWait (a : Bool) (s : State) : (setSafety a s).seqWait = s.seqWait := rfl
@[simp] theorem setSafety_timer (a : Bool) (s : State) : (setSafety a s).timer = s.timer := rfl
@[simp] theorem setSafety_compare (a : Bool) (s : State) : (setSafety a s).compare = s.compare := rfl
@[simp] theorem setSafety_escOut (a : Bool) (s : State) : (setSafety a s).escOut = s.escOut := rfl
@[simp] theorem setSafety_srData (a : Bool) (s : State) : (setSafety a s).srData = s.srData := rfl
@[simp] theorem setSafety_srClk (a : Bool) (s : State) : (setSafety a s).srClk = s.srClk := rfl
@[simp] theorem setSafety_srRst (a : Bool) (s : State) : (setSafety a s).srRst = if a then s.srRst else false := rfl
@[simp] theorem setSafety_rdata (a : Bool) (s : State) : (setSafety a s).rdata = s.rdata := rfl
@[simp] theorem setSafety_inbox (a : Bool) (s : State) : (setSafety a s).inbox = s.inbox := rfl

/-! ### hostRead -/

@[simp] theorem hostRead_build (a : Addr) (s : State) : (hostRead a s).build = s.build := rfl
@[simp] theorem hostRead_args (a : Addr) (s : State) : (hostRead a s).args = s.args := rfl
@[simp] theorem hostRead_result (a : Addr) (s : State) : (hostRead a s).result = s.result := rfl
@[simp] theorem hostRead_errSum (a : Addr) (s : State) : (hostRead a s).errSum = s.errSum := rfl
@[simp] theorem hostRead_errLast (a : Addr) (s : State) : (hostRead a s).errLast = s.errLast := rfl
@[simp] theorem hostRead_width (a : Addr) (s : State) : (hostRead a s).width = s.width := rfl
@[simp] theorem hostRead_channelIndex (a : Addr) (s : State) : (hostRead a s).channelIndex = s.channelIndex := rfl
@[simp] theorem hostRead_elapsed (a : Addr) (s : State) : (hostRead a s).elapsed = s.elapsed := rfl
@[simp] theorem hostRead_doneFlag (a : Addr) (s : State) : (hostRead a s).doneFlag = s.doneFlag := rfl
@[simp] theorem hostRead_safetyArmed (a : Addr) (s : State) : (hostRead a s).safetyArmed = s.safetyArmed := rfl
@[simp] theorem hostRead_extra (a : Addr) (s : State) : (hostRead a s).extra = s.extra := rfl
@[simp] theorem hostRead_seqRun (a : Addr) (s : State) : (hostRead a s).seqRun = s.seqRun := rfl
@[simp] theorem hostRead_seqPhase (a : Addr) (s : State) : (hostRead a s).seqPhase = s.seqPhase := rfl
@[simp] theorem hostRead_seqWait (a : Addr) (s : State) : (hostRead a s).seqWait = s.seqWait := rfl
@[simp] theorem hostRead_timer (a : Addr) (s : State) : (hostRead a s).timer = s.timer := rfl
@[simp] theorem hostRead_compare (a : Addr) (s : State) : (hostRead a s).compare = s.compare := rfl
@[simp] theorem hostRead_escOut (a : Addr) (s : State) : (hostRead a s).escOut = s.escOut := rfl
@[simp] theorem hostRead_srData (a : Addr) (s : State) : (hostRead a s).srData = s.srData := rfl
@[simp] theorem hostRead_srClk (a : Addr) (s : State) : (hostRead a s).srClk = s.srClk := rfl
@[simp] theorem hostRead_srRst (a : Addr) (s : State) : (hostRead a s).srRst = s.srRst := rfl
@[simp] theorem hostRead_rdata (a : Addr) (s : State) : (hostRead a s).rdata = portRead s a := rfl
@[simp] theorem hostRead_inbox (a : Addr) (s : State) : (hostRead a s).inbox = s.inbox := rfl

end Sys2Proof.Laws
end

