-- ==== Sys2Proof/Laws/Step.lean ====
section
/-! SUPPORT. What the shared operations of a step can do, said once: the engine and the transition field by field, a TICK
step and a step of the machine as the cases they answer a next state in. -/

namespace Sys2Proof.Laws

open Sys2Proof.Machine

/-! ### The reset-sequence engine -/

@[simp] theorem phaseAction_build (s : State) : (phaseAction s).build = s.build := by
  unfold phaseAction; split <;> rfl
@[simp] theorem phaseAction_args (s : State) : (phaseAction s).args = s.args := by
  unfold phaseAction; split <;> rfl
@[simp] theorem phaseAction_result (s : State) : (phaseAction s).result = s.result := by
  unfold phaseAction; split <;> rfl
@[simp] theorem phaseAction_errSum (s : State) : (phaseAction s).errSum = s.errSum := by
  unfold phaseAction; split <;> rfl
@[simp] theorem phaseAction_errLast (s : State) : (phaseAction s).errLast = s.errLast := by
  unfold phaseAction; split <;> rfl
@[simp] theorem phaseAction_width (s : State) : (phaseAction s).width = s.width := by
  unfold phaseAction; split <;> rfl
@[simp] theorem phaseAction_channelIndex (s : State) : (phaseAction s).channelIndex = s.channelIndex := by
  unfold phaseAction; split <;> rfl
@[simp] theorem phaseAction_elapsed (s : State) : (phaseAction s).elapsed = s.elapsed := by
  unfold phaseAction; split <;> rfl
@[simp] theorem phaseAction_doneFlag (s : State) : (phaseAction s).doneFlag = s.doneFlag := by
  unfold phaseAction; split <;> rfl
@[simp] theorem phaseAction_safetyArmed (s : State) : (phaseAction s).safetyArmed = s.safetyArmed := by
  unfold phaseAction; split <;> rfl
@[simp] theorem phaseAction_extra (s : State) : (phaseAction s).extra = s.extra := by
  unfold phaseAction; split <;> rfl
@[simp] theorem phaseAction_seqRun (s : State) : (phaseAction s).seqRun = s.seqRun := by
  unfold phaseAction; split <;> rfl
@[simp] theorem phaseAction_timer (s : State) : (phaseAction s).timer = s.timer := by
  unfold phaseAction; split <;> rfl
@[simp] theorem phaseAction_compare (s : State) : (phaseAction s).compare = s.compare := by
  unfold phaseAction; split <;> rfl
@[simp] theorem phaseAction_escOut (s : State) : (phaseAction s).escOut = s.escOut := by
  unfold phaseAction; split <;> rfl
@[simp] theorem phaseAction_rdata (s : State) : (phaseAction s).rdata = s.rdata := by
  unfold phaseAction; split <;> rfl
@[simp] theorem phaseAction_inbox (s : State) : (phaseAction s).inbox = s.inbox := by
  unfold phaseAction; split <;> rfl

@[simp] theorem engineStep_build (s : State) : (engineStep s).build = s.build := by
  unfold engineStep; split <;> [rfl; (split <;> simp)]
@[simp] theorem engineStep_args (s : State) : (engineStep s).args = s.args := by
  unfold engineStep; split <;> [rfl; (split <;> simp)]
@[simp] theorem engineStep_result (s : State) : (engineStep s).result = s.result := by
  unfold engineStep; split <;> [rfl; (split <;> simp)]
@[simp] theorem engineStep_errSum (s : State) : (engineStep s).errSum = s.errSum := by
  unfold engineStep; split <;> [rfl; (split <;> simp)]
@[simp] theorem engineStep_errLast (s : State) : (engineStep s).errLast = s.errLast := by
  unfold engineStep; split <;> [rfl; (split <;> simp)]
@[simp] theorem engineStep_width (s : State) : (engineStep s).width = s.width := by
  unfold engineStep; split <;> [rfl; (split <;> simp)]
@[simp] theorem engineStep_channelIndex (s : State) : (engineStep s).channelIndex = s.channelIndex := by
  unfold engineStep; split <;> [rfl; (split <;> simp)]
@[simp] theorem engineStep_elapsed (s : State) : (engineStep s).elapsed = s.elapsed := by
  unfold engineStep; split <;> [rfl; (split <;> simp)]
@[simp] theorem engineStep_doneFlag (s : State) : (engineStep s).doneFlag = s.doneFlag := by
  unfold engineStep; split <;> [rfl; (split <;> simp)]
@[simp] theorem engineStep_safetyArmed (s : State) : (engineStep s).safetyArmed = s.safetyArmed := by
  unfold engineStep; split <;> [rfl; (split <;> simp)]
@[simp] theorem engineStep_extra (s : State) : (engineStep s).extra = s.extra := by
  unfold engineStep; split <;> [rfl; (split <;> simp)]
@[simp] theorem engineStep_seqRun (s : State) : (engineStep s).seqRun = s.seqRun := by
  unfold engineStep; split <;> [rfl; (split <;> simp)]
@[simp] theorem engineStep_timer (s : State) : (engineStep s).timer = s.timer := by
  unfold engineStep; split <;> [rfl; (split <;> simp)]
@[simp] theorem engineStep_compare (s : State) : (engineStep s).compare = s.compare := by
  unfold engineStep; split <;> [rfl; (split <;> simp)]
@[simp] theorem engineStep_escOut (s : State) : (engineStep s).escOut = s.escOut := by
  unfold engineStep; split <;> [rfl; (split <;> simp)]
@[simp] theorem engineStep_rdata (s : State) : (engineStep s).rdata = s.rdata := by
  unfold engineStep; split <;> [rfl; (split <;> simp)]
@[simp] theorem engineStep_inbox (s : State) : (engineStep s).inbox = s.inbox := by
  unfold engineStep; split <;> [rfl; (split <;> simp)]

/-- The engine, when busy, counts down, and acts when the count reaches 0 (R220). -/
theorem engineStep_cases (s : State) :
    (s.seqPhase = .idle ∧ engineStep s = s) ∨
    (s.seqPhase ≠ .idle ∧ s.seqWait - 1 ≠ 0 ∧ engineStep s = countDown s) ∨
    (s.seqPhase ≠ .idle ∧ s.seqWait - 1 = 0 ∧ engineStep s = phaseAction (countDown s)) := by
  unfold engineStep
  split
  · exact .inl ⟨‹_›, rfl⟩
  · split
    · exact .inr (.inr ⟨‹_›, ‹_›, rfl⟩)
    · exact .inr (.inl ⟨‹_›, ‹_›, rfl⟩)

/-! ### The compare-match transition -/

@[simp] theorem endOrRepeat_build (s : State) : (endOrRepeat s).build = s.build := by
  unfold endOrRepeat; split <;> rfl
@[simp] theorem endOrRepeat_args (s : State) : (endOrRepeat s).args = s.args := by
  unfold endOrRepeat; split <;> rfl
@[simp] theorem endOrRepeat_result (s : State) : (endOrRepeat s).result = s.result := by
  unfold endOrRepeat; split <;> rfl
@[simp] theorem endOrRepeat_errSum (s : State) : (endOrRepeat s).errSum = s.errSum := by
  unfold endOrRepeat; split <;> rfl
@[simp] theorem endOrRepeat_errLast (s : State) : (endOrRepeat s).errLast = s.errLast := by
  unfold endOrRepeat; split <;> rfl
@[simp] theorem endOrRepeat_width (s : State) : (endOrRepeat s).width = s.width := by
  unfold endOrRepeat; split <;> rfl
@[simp] theorem endOrRepeat_safetyArmed (s : State) : (endOrRepeat s).safetyArmed = s.safetyArmed := by
  unfold endOrRepeat; split <;> rfl
@[simp] theorem endOrRepeat_extra (s : State) : (endOrRepeat s).extra = s.extra := by
  unfold endOrRepeat; split <;> rfl
@[simp] theorem endOrRepeat_seqPhase (s : State) : (endOrRepeat s).seqPhase = s.seqPhase := by
  unfold endOrRepeat; split <;> rfl
@[simp] theorem endOrRepeat_seqWait (s : State) : (endOrRepeat s).seqWait = s.seqWait := by
  unfold endOrRepeat; split <;> rfl
@[simp] theorem endOrRepeat_timer (s : State) : (endOrRepeat s).timer = s.timer := by
  unfold endOrRepeat; split <;> rfl
@[simp] theorem endOrRepeat_srData (s : State) : (endOrRepeat s).srData = s.srData := by
  unfold endOrRepeat; split <;> rfl
@[simp] theorem endOrRepeat_srClk (s : State) : (endOrRepeat s).srClk = s.srClk := by
  unfold endOrRepeat; split <;> rfl
@[simp] theorem endOrRepeat_srRst (s : State) : (endOrRepeat s).srRst = s.srRst := by
  unfold endOrRepeat; split <;> rfl
@[simp] theorem endOrRepeat_rdata (s : State) : (endOrRepeat s).rdata = s.rdata := by
  unfold endOrRepeat; split <;> rfl
@[simp] theorem endOrRepeat_inbox (s : State) : (endOrRepeat s).inbox = s.inbox := by
  unfold endOrRepeat; split <;> rfl
@[simp] theorem endOrRepeat_compare (s : State) : (endOrRepeat s).compare = s.compare := by
  unfold endOrRepeat; split <;> rfl
@[simp] theorem endOrRepeat_escOut (s : State) : (endOrRepeat s).escOut = s.escOut := by
  unfold endOrRepeat; split <;> rfl
@[simp] theorem endOrRepeat_elapsed (s : State) : (endOrRepeat s).elapsed = s.elapsed := by
  unfold endOrRepeat; split <;> rfl

@[simp] theorem transition_build (s : State) (w : Word) : (transition s w).build = s.build := by
  unfold transition; split <;> simp
@[simp] theorem transition_args (s : State) (w : Word) : (transition s w).args = s.args := by
  unfold transition; split <;> simp
@[simp] theorem transition_result (s : State) (w : Word) : (transition s w).result = s.result := by
  unfold transition; split <;> simp
@[simp] theorem transition_errSum (s : State) (w : Word) : (transition s w).errSum = s.errSum := by
  unfold transition; split <;> simp
@[simp] theorem transition_errLast (s : State) (w : Word) : (transition s w).errLast = s.errLast := by
  unfold transition; split <;> simp
@[simp] theorem transition_width (s : State) (w : Word) : (transition s w).width = s.width := by
  unfold transition; split <;> simp
@[simp] theorem transition_safetyArmed (s : State) (w : Word) : (transition s w).safetyArmed = s.safetyArmed := by
  unfold transition; split <;> simp
@[simp] theorem transition_extra (s : State) (w : Word) : (transition s w).extra = s.extra := by
  unfold transition; split <;> simp
@[simp] theorem transition_seqPhase (s : State) (w : Word) : (transition s w).seqPhase = s.seqPhase := by
  unfold transition; split <;> simp
@[simp] theorem transition_seqWait (s : State) (w : Word) : (transition s w).seqWait = s.seqWait := by
  unfold transition; split <;> simp
@[simp] theorem transition_timer (s : State) (w : Word) : (transition s w).timer = s.timer := by
  unfold transition; split <;> simp
@[simp] theorem transition_srData (s : State) (w : Word) : (transition s w).srData = s.srData := by
  unfold transition; split <;> simp
@[simp] theorem transition_srClk (s : State) (w : Word) : (transition s w).srClk = s.srClk := by
  unfold transition; split <;> simp
@[simp] theorem transition_srRst (s : State) (w : Word) : (transition s w).srRst = s.srRst := by
  unfold transition; split <;> simp
@[simp] theorem transition_rdata (s : State) (w : Word) : (transition s w).rdata = s.rdata := by
  unfold transition; split <;> simp
@[simp] theorem transition_inbox (s : State) (w : Word) : (transition s w).inbox = s.inbox := by
  unfold transition; split <;> simp
@[simp] theorem transition_compare (s : State) (w : Word) : (transition s w).compare = s.compare + w := by
  unfold transition; split <;> simp
@[simp] theorem transition_escOut (s : State) (w : Word) : (transition s w).escOut = !s.escOut := by
  unfold transition; split <;> simp
@[simp] theorem transition_elapsed (s : State) (w : Word) : (transition s w).elapsed = s.elapsed + w := by
  unfold transition; split <;> simp

/-- The three outcomes of a transition: advance, stop, repeat (R223, R240). -/
theorem transition_cases (s : State) (w : Word) :
    ((s.channelIndex + 1).toNat < activeChannels s ∧ transition s w = advanceChannel s w) ∨
    (activeChannels s ≤ (s.channelIndex + 1).toNat ∧ s.build.frameTicks < (s.elapsed + w).toNat ∧
      transition s w = { advanceChannel s w with doneFlag := true, seqRun := false }) ∨
    (activeChannels s ≤ (s.channelIndex + 1).toNat ∧ (s.elapsed + w).toNat ≤ s.build.frameTicks ∧
      transition s w = { advanceChannel s w with channelIndex := s.channelIndex + 1 - 1 }) := by
  unfold transition
  split
  · rename_i h
    unfold endOrRepeat
    split
    · exact .inr (.inl ⟨h, ‹_›, rfl⟩)
    · exact .inr (.inr ⟨h, Nat.le_of_not_lt ‹_›, rfl⟩)
  · exact .inl ⟨Nat.lt_of_not_le ‹_›, rfl⟩

/-- A match needs a channel index with a width (R225). -/
theorem compareMatch_next {s t : State} (h : compareMatch s = .next t) :
    ∃ hi : s.channelIndex.toNat < 8, t = transition s s.width[s.channelIndex.toNat] := by
  unfold compareMatch at h
  split at h
  · rename_i hi
    cases h
    exact ⟨hi, rfl⟩
  · cases h

/-! ### The TICK step -/

/-- The state in which a TICK step compares: the timer counted, the engine advanced (R220). -/
abbrev ticked (s : State) : State := engineStep (timerStep s)

/-- A match is due in the ticked state exactly when a frame runs and the new timer value equals compare (R221). -/
theorem compareDue_ticked (s : State) : compareDue (ticked s) = true ↔ s.seqRun = true ∧ s.timer + 1 = s.compare := by
  simp [compareDue, ticked]

/-- A TICK step either matches nothing or is a transition (R220). -/
theorem tickStep_cases {s t : State} (h : tickStep s = .next t) :
    (¬ (s.seqRun = true ∧ s.timer + 1 = s.compare) ∧ t = ticked s) ∨
    (s.seqRun = true ∧ s.timer + 1 = s.compare ∧
      ∃ hi : s.channelIndex.toNat < 8, t = transition (ticked s) s.width[s.channelIndex.toNat]) := by
  unfold tickStep matchStep at h
  split at h
  · rename_i hd
    obtain ⟨hr, hc⟩ := (compareDue_ticked s).1 hd
    obtain ⟨hi, rfl⟩ := compareMatch_next h
    refine .inr ⟨hr, hc, by simpa using hi, ?_⟩
    congr 1
    simp
  · rename_i hd
    cases h
    exact .inl ⟨fun hh => hd ((compareDue_ticked s).2 hh), rfl⟩

/-- A TICK step with no match acted on (R221). -/
theorem tickStep_quiet {s : State} (h : ¬ (s.seqRun = true ∧ s.timer + 1 = s.compare)) :
    tickStep s = .next (ticked s) := by
  unfold tickStep matchStep
  rw [if_neg (fun hd => h ((compareDue_ticked s).1 hd))]

/-- A TICK step with a match acted on (R221, R223). -/
theorem tickStep_match {s : State} (hr : s.seqRun = true) (hc : s.timer + 1 = s.compare)
    (hi : s.channelIndex.toNat < 8) :
    tickStep s = .next (transition (ticked s) s.width[s.channelIndex.toNat]) := by
  unfold tickStep matchStep compareMatch
  rw [if_pos ((compareDue_ticked s).2 ⟨hr, hc⟩), dif_pos (by simpa using hi)]
  congr 2
  simp

/-! ### The step -/

/-- A step is a TICK that leaves the inputs alone, or takes the next input (R69, R73). -/
theorem step_cases {s t : State} (h : step s = .next t) :
    tickStep s = .next t ∨
    ∃ x rest, s.inbox = x :: rest ∧ ready s x = true ∧ serve x { s with inbox := rest } = .next t := by
  unfold step advance at h
  split at h
  · exact .inl h
  · split at h
    · exact .inr ⟨_, _, ‹_›, ‹_›, h⟩
    · exact .inl h

/-- A host write stores an argument, runs a command, or changes nothing (R63). -/
theorem hostWrite_cases {a : Addr} {v : Word} {s t : State} (h : hostWrite a v s = .next t) :
    (∃ i : Fin 5, t = writeArg s i v) ∨ (a = cmdAddr ∧ ∃ i, decode v = .ok i ∧ exec i s = .next t) ∨ t = s := by
  unfold hostWrite at h
  split at h
  · cases h
    exact .inl ⟨_, rfl⟩
  · split at h
    · rename_i ha
      unfold commandWrite at h
      split at h
      · exact .inr (.inl ⟨ha, _, ‹_›, h⟩)
      · cases h
        exact .inr (.inr rfl)
    · cases h
      exact .inr (.inr rfl)

/-- What one step can do, all agents together. -/
theorem step_effects {s t : State} (h : step s = .next t) :
    (∃ u : State, (u = s ∨ ∃ rest, s.inbox = .tick :: rest ∧ u = { s with inbox := rest }) ∧ tickStep u = .next t) ∨
    (∃ rest, s.inbox = .reset :: rest ∧ t = { State.resetOf s.build with inbox := rest }) ∨
    (∃ a rest, s.inbox = .read a :: rest ∧ t = { s with inbox := rest, rdata := portRead s a }) ∨
    (∃ a v rest, s.inbox = .write a v :: rest ∧
      ((∃ i : Fin 5, t = writeArg { s with inbox := rest } i v) ∨
       (s.seqPhase = .idle ∧ ∃ i, decode v = .ok i ∧ exec i { s with inbox := rest } = .next t) ∨
       t = { s with inbox := rest })) := by
  rcases step_cases h with h | ⟨x, rest, hx, hr, h⟩
  · exact .inl ⟨s, .inl rfl, h⟩
  · cases x with
    | tick => exact .inl ⟨_, .inr ⟨rest, hx, rfl⟩, h⟩
    | reset =>
      cases h
      exact .inr (.inl ⟨rest, hx, rfl⟩)
    | read a =>
      cases h
      exact .inr (.inr (.inl ⟨a, rest, hx, rfl⟩))
    | write a v =>
      refine .inr (.inr (.inr ⟨a, v, rest, hx, ?_⟩))
      rcases hostWrite_cases h with hw | ⟨ha, hc⟩ | he
      · exact .inl hw
      · refine .inr (.inl ⟨?_, hc⟩)
        simpa [ready, ha, busy] using hr
      · exact .inr (.inr he)

end Sys2Proof.Laws
end

