-- ==== Sys2Proof/Laws/Engine.lean ====
section
/-! SUPPORT. The reset-sequence engine and the wait for a match as counts of TICK steps (60_exceptions.md R221, R227). -/

namespace Sys2Proof.Laws

open Sys2Proof.Machine Sys2Proof.Safety

/-- A tick brings the timer one nearer to the compare register. -/
theorem sub_succ_toNat (c t : Word) (h : 1 ≤ (c - t).toNat) : (c - (t + 1)).toNat = (c - t).toNat - 1 := by
  have h1 := c.isLt; have h2 := t.isLt
  simp only [BitVec.toNat_sub, BitVec.toNat_add] at *
  simp at *
  omega

/-- The next tick is a match exactly when one tick is left. -/
theorem timer_succ_eq_iff (c t : Word) : t + 1 = c ↔ (c - t).toNat = 1 := by
  constructor
  · rintro rfl
    have h2 := t.isLt
    simp
  · intro h
    apply BitVec.eq_of_toNat_eq
    have h1 := c.isLt; have h2 := t.isLt
    simp only [BitVec.toNat_sub, BitVec.toNat_add] at *
    simp at *
    omega

/-- One engine step, from the pins and the interlock of the invariant: both hold after it, and it is one tick nearer to
IDLE. -/
theorem engineStep_keeps {s : State} (hb : BuildValid s.build) (hp : EnginePins s) (hl : InterlockHolds s) :
    EnginePins (engineStep s) ∧ InterlockHolds (engineStep s) ∧ ticksToIdle (engineStep s) = ticksToIdle s - 1 ∧
      (busy s = true → 1 ≤ ticksToIdle s) ∧ (busy (engineStep s) = true → busy s = true) ∧
      (busy s = false → engineStep s = s) ∧ (busy (engineStep s) = true ↔ 1 < ticksToIdle s) := by
  have h1 := hb.tSettle
  have h2 := hb.tPad
  obtain ⟨ph, hph⟩ : ∃ ph, ph = s.seqPhase := ⟨_, rfl⟩
  rcases engineStep_cases s with ⟨hi, he⟩ | ⟨hi, hw, he⟩ | ⟨hi, hw, he⟩
  · rw [he]; simp [EnginePins, ticksToIdle, busy, hi] at *; exact ⟨hp, hl⟩
  · rw [he]
    cases ph <;> simp only [EnginePins, ticksToIdle, busy, ← hph, InterlockHolds, countDown, ne_eq,
      reduceCtorEq, not_true_eq_false, not_false_eq_true, decide_true] at *
    all_goals
      obtain ⟨p1, p2, p3, p4⟩ := hp
      simp [p1, p2]
      refine ⟨?_, hl, ?_⟩ <;> omega
  · rw [he]
    cases ph <;> simp only [EnginePins, ticksToIdle, busy, ← hph, InterlockHolds, countDown, phaseAction,
      ne_eq, reduceCtorEq, not_true_eq_false, not_false_eq_true, decide_true, decide_false] at *
    all_goals
      obtain ⟨p1, p2, p3, p4⟩ := hp
      simp [p1, p2]
    · refine ⟨by omega, ?_, by omega, by omega, by omega⟩
      intro h; simp [h, hl h]
    · refine ⟨by omega, hl, ?_⟩; omega
    · refine ⟨by omega, hl, ?_⟩; omega
    · refine ⟨by omega, hl, ?_⟩; omega

/-- A TICK step counts down the wait for a match. -/
theorem ticksToMatch_ticked {s : State} (h : 1 ≤ ticksToMatch s) : ticksToMatch (ticked s) = ticksToMatch s - 1 := by
  simp only [ticksToMatch, ticked, engineStep_compare, engineStep_timer, timerStep]
  exact sub_succ_toNat _ _ h

end Sys2Proof.Laws
end

