-- ==== Sys2Proof/Laws/Port.lean ====
section
/-! SUPPORT. What the host's read of a register depends on (R64), and the operands an `idx` names (R91). -/

namespace Sys2Proof.Laws

open Sys2Proof.Machine

/-- A read at one address depends only on the element mapped there (R64). -/
theorem portRead_congr {s t : State} {a : Addr} (h0 : ∀ h : a.toNat < 5, t.args[a.toNat] = s.args[a.toNat])
    (h5 : a.toNat = 0x05 → t.result = s.result) (h7 : a.toNat = 0x07 → statusWord t = statusWord s)
    (h8 : a.toNat = 0x08 → t.timer = s.timer) (h9 : a.toNat = 0x09 → t.compare = s.compare)
    (h10 : a.toNat = 0x0A → t.elapsed = s.elapsed)
    (hw : ∀ h : 0x10 ≤ a.toNat ∧ a.toNat < 0x18, t.width[a.toNat - 0x10] = s.width[a.toNat - 0x10])
    (hs : ∀ h : 0x20 ≤ a.toNat ∧ a.toNat < 0x24, t.errSum[a.toNat - 0x20] = s.errSum[a.toNat - 0x20])
    (hl : ∀ h : 0x28 ≤ a.toNat ∧ a.toNat < 0x2C, t.errLast[a.toNat - 0x28] = s.errLast[a.toNat - 0x28]) :
    portRead t a = portRead s a := by
  unfold portRead
  split
  · exact h0 ‹_›
  · split
    · exact h5 ‹_›
    · split
      · exact h7 ‹_›
      · split
        · exact h8 ‹_›
        · split
          · exact h9 ‹_›
          · split
            · exact h10 ‹_›
            · split
              · exact hw ‹_›
              · split
                · exact hs ‹_›
                · split
                  · exact hl ‹_›
                  · rfl

theorem contextOf_lt (c : Idx) (h : c.toNat < 4) : contextOf c = some ⟨c.toNat, h⟩ := dif_pos h

theorem contextOf_ge (c : Idx) (h : 4 ≤ c.toNat) : contextOf c = none := dif_neg (Nat.not_lt.2 h)

theorem armedOf_ge (a : Idx) (h : 2 ≤ a.toNat) : armedOf a = none := by
  unfold armedOf
  rw [if_neg (by omega), if_neg (by omega)]

@[simp] theorem channelOf_val (ch : Idx) : (channelOf ch).val = ch.toNat := rfl

theorem extraOf_toNat (n : Idx) : (extraOf n).toNat = min n.toNat 4 := by
  revert n
  decide

end Sys2Proof.Laws
end

