-- ==== Sys2Proof/Laws/Exec.lean ====
section
/-! SUPPORT. What a command can do, said once: the cases in which `exec` answers a next state. -/

namespace Sys2Proof.Laws

open Sys2Proof.Machine

/-- A command that answers a next state left the state alone or is one of the writes of its rule; an `idx` that is no
legal encoding is the first case. -/
theorem exec_cases {i : Instr} {s t : State} (h : exec i s = .next t) :
    t = s ∨ (∃ v, (i = .smuldiv ∨ i = .atan2 ∨ i = .asin ∨ i = .escTotal ∨ i = .escIsdone) ∧ t = writeResult s v) ∨
  (∃ (c : Idx) (k : Fin 4), c.toNat = k.val ∧ i = .pidInit c ∧ t = writeContext s k 0 0) ∨
  (∃ (c : Idx) (k : Fin 4), c.toNat = k.val ∧ i = .pidUpd c ∧ t = pidUpdate k s) ∨
  (i = .escStart ∧ t = startFrame s) ∨ (∃ a b, i = .escSafe a ∧ t = setSafety b s) ∨
  (∃ ch : Idx, i = .escSetw ch ∧ t = writeWidth s (channelOf ch) (clampWidth s.build (argInt s 0))) ∨
  (∃ n, i = .escSetx n ∧ t = { s with extra := extraOf n }) ∨ (i = .escClrdone ∧ t = { s with doneFlag := false }) := by
  cases i with
  | nop => cases h; exact .inl rfl
  | smuldiv => cases h; exact .inr (.inl ⟨_, by simp, rfl⟩)
  | atan2 => cases h; exact .inr (.inl ⟨_, by simp, rfl⟩)
  | asin => cases h; exact .inr (.inl ⟨_, by simp, rfl⟩)
  | escTotal => cases h; exact .inr (.inl ⟨_, by simp, rfl⟩)
  | escIsdone => cases h; exact .inr (.inl ⟨_, by simp, rfl⟩)
  | pidInit c =>
    by_cases hc : c.toNat < 4
    · simp [exec, execPidInit, contextOf_lt c hc] at h; subst h
      exact .inr (.inr (.inl ⟨c, ⟨_, hc⟩, rfl, rfl, rfl⟩))
    · simp [exec, execPidInit, contextOf_ge c (by omega)] at h; exact .inl h.symm
  | pidUpd c =>
    by_cases hc : c.toNat < 4
    · simp [exec, execPidUpd, contextOf_lt c hc] at h; subst h
      exact .inr (.inr (.inr (.inl ⟨c, ⟨_, hc⟩, rfl, rfl, rfl⟩)))
    · simp [exec, execPidUpd, contextOf_ge c (by omega)] at h; exact .inl h.symm
  | escStart => cases h; exact .inr (.inr (.inr (.inr (.inl ⟨rfl, rfl⟩))))
  | escSafe a =>
    simp only [exec, execEscSafe] at h
    split at h <;> cases h
    · exact .inr (.inr (.inr (.inr (.inr (.inl ⟨a, _, rfl, rfl⟩)))))
    · exact .inl rfl
  | escSetw ch => cases h; exact .inr (.inr (.inr (.inr (.inr (.inr (.inl ⟨ch, rfl, rfl⟩))))))
  | escSetx n => cases h; exact .inr (.inr (.inr (.inr (.inr (.inr (.inr (.inl ⟨n, rfl, rfl⟩)))))))
  | escClrdone => cases h; exact .inr (.inr (.inr (.inr (.inr (.inr (.inr (.inr ⟨rfl, rfl⟩)))))))

end Sys2Proof.Laws
end

