-- ==== Sys2Proof/Laws/PerInstr.lean ====
section
/-! SUPPORT. Per-instruction families: what the word of each command holds in its fields. -/

namespace Sys2Proof.Laws.EncodingFields

/-- The word of a command: upper bits zero, its opcode in bits 7:0, its immediate in bits 10:8 (R90). -/
def Statement (i : Instr) : Prop :=
  zeroField (encode i) = 0 ∧ opcodeField (encode i) = opcodeOf i ∧ idxField (encode i) = idxOf i

/-- The fields of any encoded command. -/
theorem of_formatC (i : Instr) : Statement i := by
  simp [Statement, encode, formatC]

theorem nop : Statement .nop := of_formatC _
theorem smuldiv : Statement .smuldiv := of_formatC _
theorem atan2 : Statement .atan2 := of_formatC _
theorem asin : Statement .asin := of_formatC _
theorem pidInit (c : Idx) : Statement (.pidInit c) := of_formatC _
theorem pidUpd (c : Idx) : Statement (.pidUpd c) := of_formatC _
theorem escStart : Statement .escStart := of_formatC _
theorem escSafe (a : Idx) : Statement (.escSafe a) := of_formatC _
theorem escSetw (ch : Idx) : Statement (.escSetw ch) := of_formatC _
theorem escTotal : Statement .escTotal := of_formatC _
theorem escSetx (n : Idx) : Statement (.escSetx n) := of_formatC _
theorem escIsdone : Statement .escIsdone := of_formatC _
theorem escClrdone : Statement .escClrdone := of_formatC _

end Sys2Proof.Laws.EncodingFields
end

