-- ==== Sys2Proof/Laws/Rom.lean ====
section
/-! SUPPORT. The default tables meet the constraints of 42_trig_rom.md R150, so the reference build is one the spec is
about. -/

namespace Sys2Proof.Laws

open Sys2Proof.Machine Sys2Proof.Safety

/-- No entry is smaller than the one before it. -/
def nondecreasing : List Nat → Bool
  | [] => true
  | [_] => true
  | a :: b :: l => Nat.ble a b && nondecreasing (b :: l)

theorem getD_le_succ_of_nondecreasing (l : List Nat) (h : nondecreasing l = true) (i : Nat) (hi : i + 1 < l.length) :
    l.getD i 0 ≤ l.getD (i + 1) 0 := by
  induction l generalizing i with
  | nil => simp at hi
  | cons a l ih =>
    cases l with
    | nil => simp at hi
    | cons b l =>
      simp only [nondecreasing, Bool.and_eq_true, Nat.ble_eq] at h
      cases i with
      | zero => exact h.1
      | succ i => exact ih h.2 i (by simpa using hi)

theorem romValid_listing (listing : List Nat) (top : Nat) (hl : listing.length = 1001) (h0 : listing.getD 0 0 = 0)
    (h1 : listing.getD 1000 0 = top) (hn : nondecreasing listing = true) : RomValid listing .listing top :=
  ⟨hl, h0, h1, fun i hi => getD_le_succ_of_nondecreasing listing hn i (by omega)⟩

/-- The listing of R152 meets R150. -/
theorem atanListing_valid : RomValid atanListing .listing 45000 :=
  romValid_listing _ _ (by decide +kernel) (by decide +kernel) (by decide +kernel) (by decide +kernel)

/-- The listing of R153 meets R150. -/
theorem asinListing_valid : RomValid asinListing .listing 90000 :=
  romValid_listing _ _ (by decide +kernel) (by decide +kernel) (by decide +kernel) (by decide +kernel)

/-- The reference values of R7 meet its constraints. -/
theorem reference_valid : BuildValid Config.Build.reference where
  baseTick := by simp [Config.Build.reference]
  frameTicks := by simp [Config.Build.reference]
  leadTicks := by simp [Config.Build.reference]
  tSettle := by simp [Config.Build.reference]
  tPad := by simp [Config.Build.reference]
  atanRom := atanListing_valid
  asinRom := asinListing_valid

/-- Entries of a valid table grow with the index. -/
theorem romEntry_mono {listing : List Nat} {rom : Config.Rom} {top : Nat} (h : RomValid listing rom top) {i j : Nat}
    (hij : i ≤ j) (hj : j ≤ 1000) : romEntry listing rom i ≤ romEntry listing rom j := by
  induction j with
  | zero => rw [Nat.le_zero.1 hij]
  | succ j ih =>
    rcases Nat.lt_or_ge i (j + 1) with hlt | hge
    · exact (ih (by omega) (by omega)).trans (h.2.2.2 j (by omega))
    · rw [show i = j + 1 by omega]

/-- Every entry of a valid table is at most its last one (R150). -/
theorem romEntry_le_top {listing : List Nat} {rom : Config.Rom} {top : Nat} (h : RomValid listing rom top) {r : Nat}
    (hr : r ≤ 1000) : romEntry listing rom r ≤ top := by
  rw [← h.2.2.1]
  exact romEntry_mono h hr le_rfl

end Sys2Proof.Laws
end

