-- ==== Sys2Proof/Laws/Run.lean ====
section
/-! SUPPORT. Runs of the machine, one step or one run after another. -/

namespace Sys2Proof.Laws

open Sys2Proof.Machine

/-- A run starts with its first step. -/
theorem run_succ (k : Nat) {s t : State} (h : step s = .next t) :
    Host.Core.run core (k + 1) s = Host.Core.run core k t := by
  simp only [Host.Core.run]; rw [show core.step s = .next t from h]

/-- A run in two parts. -/
theorem run_add (a b : Nat) {s t : State} (h : Host.Core.run core a s = .next t) :
    Host.Core.run core (a + b) s = Host.Core.run core b t := by
  induction a generalizing s with
  | zero => cases h; simp
  | succ a ih =>
    simp only [Host.Core.run] at h
    split at h
    · rename_i u hu
      rw [show a + 1 + b = (a + b) + 1 by omega, run_succ _ hu]; exact ih h
    · cases h
    · cases h

end Sys2Proof.Laws
end

