-- ==== Sys2Proof/Laws/Trig.lean ====
section
/-! SUPPORT. The table index of ATAN2 and ASIN as a quotient of magnitudes, which is at most 1000 (41_trig.md R130, R131). -/

namespace Sys2Proof.Laws

open Sys2Proof.Machine

/-- The index of R131 and R135 as a natural quotient. -/
theorem ratio_nat (a b : Nat) : (rdiv ((a:Int) * Config.mult) b).toNat = (a * 1000 + b / 2) / b := by
  have : (a:Int) * Config.mult = ((a * 1000 : Nat) : Int) := by simp [Config.mult]
  rw [this, rdiv_nat, Int.toNat_natCast]

/-- The index stays in the table when the numerator is the smaller magnitude. -/
theorem ratio_le {a b : Nat} (h : a ≤ b) (hb : 0 < b) : (a * 1000 + b / 2) / b ≤ 1000 := by
  have : (a * 1000 + b / 2) / b < 1001 := (Nat.div_lt_iff_lt_mul hb).2 (by omega)
  omega

/-- Equal magnitudes select the last entry. -/
theorem ratio_self {b : Nat} (hb : 0 < b) : (b * 1000 + b / 2) / b = 1000 := by
  rw [Nat.add_comm, Nat.add_mul_div_left _ _ hb, Nat.div_eq_of_lt (by omega)]

end Sys2Proof.Laws
end

