-- ==== Sys2Proof/Tests/Slice0.lean ====
section
/-! SUPPORT. Tests: the well-formedness smoke test, words written out from the spec's encoding, vectors of
95_test_vectors.md (their number stands in the comment), and for every obligation with hypotheses a witness that meets
them. -/

namespace Sys2Proof.Tests

open Sys2Proof Sys2Proof.Machine Sys2Proof.Safety Sys2Proof.Laws

set_option Elab.async false

/-! ### Helpers -/

/-- What `f` shows of the next state an outcome answers. -/
def see {α : Type} (f : State → α) : Host.Outcome State Fault Refusal → Option α
  | .next t => some (f t)
  | .fault _ => none
  | .refused _ => none

/-- The reset state with these operands. -/
def operands (a b c d e : Int) : State :=
  { State.reset with args := #v[signedWord a, signedWord b, signedWord c, signedWord d, signedWord e] }

/-- `s` with `x` as its only input. -/
def given (x : Input) (s : State) : State := { s with inbox := [x] }

/-- An armed frame in the engine phase `ph`, `wait` ticks before that phase's action. -/
def framing (ph : SeqPhase) (wait : Nat) : State :=
  { State.reset with
    safetyArmed := true, seqRun := true, compare := 16, seqPhase := ph, seqWait := wait
    srData := decide (ph = .pad1 ∨ ph = .pad2 ∨ ph = .pad3), srClk := decide (ph = .pad2) }

/-- A frame whose match falls in the next tick, with channel `index` current and `ticks` elapsed. -/
def due (index : BitVec 4) (ticks : Word) : State :=
  { State.reset with seqRun := true, timer := 15, compare := 16, channelIndex := index, elapsed := ticks }

/-- The clauses of `Inv` but for the build, in a form that computes. -/
def invHolds (s : State) : Bool :=
  decide (∀ c : Fin 8, 2 * s.build.baseTick ≤ (s.width[c]).toNat ∧ (s.width[c]).toNat ≤ 4 * s.build.baseTick) &&
  decide (∀ c : Fin 4, -1000000 ≤ (s.errSum[c]).toInt ∧ (s.errSum[c]).toInt ≤ 1000000) &&
  decide (s.extra.toNat ≤ 4 ∧ s.channelIndex.toNat ≤ 8 ∧ (s.seqRun = true → s.channelIndex.toNat ≤ 7)) &&
  decide (s.safetyArmed = false → s.srRst = false) &&
  (match s.seqPhase with
    | .idle => decide (s.srData = false ∧ s.srClk = false ∧ s.seqWait = 0)
    | .settle => decide (s.srData = false ∧ s.srClk = false ∧ 1 ≤ s.seqWait ∧ s.seqWait ≤ s.build.tSettle)
    | .pad1 => decide (s.srData = true ∧ s.srClk = false ∧ 1 ≤ s.seqWait ∧ s.seqWait ≤ s.build.tPad)
    | .pad2 => decide (s.srData = true ∧ s.srClk = true ∧ 1 ≤ s.seqWait ∧ s.seqWait ≤ s.build.tPad)
    | .pad3 => decide (s.srData = true ∧ s.srClk = false ∧ 1 ≤ s.seqWait ∧ s.seqWait ≤ s.build.tPad)) &&
  decide (s.seqRun = true → s.doneFlag = false ∧ 1 ≤ ticksToMatch s ∧
    ticksToMatch s ≤ max s.build.leadTicks (4 * s.build.baseTick) ∧
    s.elapsed.toNat ≤ s.build.frameTicks + s.channelIndex.toNat * (4 * s.build.baseTick)) &&
  decide (busy s = true → s.seqRun = true ∧ ticksToIdle s < ticksToMatch s) &&
  decide (s.doneFlag = true → s.build.frameTicks < s.elapsed.toNat)

theorem inv_of_check {s : State} (hb : BuildValid s.build) (h : invHolds s = true) : Inv s := by
  simp only [invHolds, Bool.and_eq_true, decide_eq_true_eq] at h
  obtain ⟨⟨⟨⟨⟨⟨⟨hw, hi⟩, he, hx, hr⟩, hl⟩, hp⟩, hm⟩, hf⟩, hd⟩ := h
  refine ⟨hb, hw, hi, he, hx, hr, hl, ?_, fun r => (hm r).1, fun r => ⟨(hm r).2.1, (hm r).2.2.1⟩, hf,
    fun r => (hm r).2.2.2, hd⟩
  unfold EnginePins
  cases hph : s.seqPhase <;> simpa [hph] using hp

theorem inv_reset : Inv State.reset := inv_of_check reference_valid (by decide +kernel)

theorem inv_framing : Inv (framing .settle 2) ∧ Inv (framing .settle 1) ∧ Inv (framing .pad1 1) ∧
    Inv (framing .pad2 1) ∧ Inv (framing .pad3 1) :=
  ⟨inv_of_check reference_valid (by decide +kernel), inv_of_check reference_valid (by decide +kernel),
   inv_of_check reference_valid (by decide +kernel), inv_of_check reference_valid (by decide +kernel),
   inv_of_check reference_valid (by decide +kernel)⟩

/-- Before the match: below the active count, at it within the budget (the total is 20000 exactly), at it past the
budget. -/
theorem inv_due : Inv (due 2 4000) ∧ Inv (due 3 18000) ∧ Inv (due 3 18001) :=
  ⟨inv_of_check reference_valid (by decide +kernel), inv_of_check reference_valid (by decide +kernel),
   inv_of_check reference_valid (by decide +kernel)⟩

/-- A build at the bounds of R7. -/
def boundaryBuild : Config.Build :=
  { baseTick := 2 ^ 24, frameTicks := 2 ^ 31, leadTicks := 2 ^ 31 - 1, tSettle := 1, tPad := 1,
    atanRom := .listing, asinRom := .listing }

theorem boundaryBuild_valid : BuildValid boundaryBuild where
  baseTick := by decide
  frameTicks := by decide
  leadTicks := by decide
  tSettle := by decide
  tPad := by decide
  atanRom := atanListing_valid
  asinRom := asinListing_valid

/-! ### Well-formedness and decoding -/

/-- R91: `idx` 4..7 of the PID commands and 2..7 of ESC.SAFE are no encodings. -/
theorem test_wellFormed_refuses :
    Instr.wellFormed (.pidInit 4) = false ∧ Instr.wellFormed (.pidUpd 7) = false ∧
    Instr.wellFormed (.escSafe 2) = false ∧ Instr.wellFormed (.pidInit 3) = true ∧
    Instr.wellFormed (.escSafe 1) = true ∧ Instr.wellFormed (.escSetx 7) = true := by decide

/-- R90, R93: bits 31:11 zero, `idx` in bits 10:8, the opcode in bits 7:0, written out bit by bit. -/
theorem test_decode_words :
    decodeTableWord 32 0b00000000000 = some .nop ∧
    decodeTableWord 32 0b00000000001 = some .smuldiv ∧
    decodeTableWord 32 0b00000000010 = some .atan2 ∧
    decodeTableWord 32 0b00000000011 = some .asin ∧
    decodeTableWord 32 0b01100010000 = some (.pidInit 3) ∧
    decodeTableWord 32 0b01000010001 = some (.pidUpd 2) ∧
    decodeTableWord 32 0b00000100000 = some .escStart ∧
    decodeTableWord 32 0b00100100001 = some (.escSafe 1) ∧
    decodeTableWord 32 0b10100100010 = some (.escSetw 5) ∧
    decodeTableWord 32 0b00000100011 = some .escTotal ∧
    decodeTableWord 32 0b11100100100 = some (.escSetx 7) ∧
    decodeTableWord 32 0b00000100101 = some .escIsdone ∧
    decodeTableWord 32 0b00000100110 = some .escClrdone := by decide

/-- V-C, reserved words, each with the reason R95 gives. -/
theorem test_decode_reserved :
    decode 0x00000004 = .error (.undefinedOpcode 0x04) ∧ decode 0x00000012 = .error (.undefinedOpcode 0x12) ∧
    decode 0x00000027 = .error (.undefinedOpcode 0x27) ∧ decode 0x00000101 = .error (.illegalIdx 0x01 1) ∧
    decode 0x00000100 = .error (.illegalIdx 0x00 1) ∧ decode 0x00000410 = .error (.illegalIdx 0x10 4) ∧
    decode 0x00000711 = .error (.illegalIdx 0x11 7) ∧ decode 0x00000221 = .error (.illegalIdx 0x21 2) ∧
    decode 0x00000120 = .error (.illegalIdx 0x20 1) ∧ decode 0x00000801 = .error .nonzeroUpper ∧
    decode 0x80000001 = .error .nonzeroUpper ∧ decode 0xFFFFFFFF = .error .nonzeroUpper := by
  refine ⟨?_, ?_, ?_, ?_, ?_, ?_, ?_, ?_, ?_, ?_, ?_, ?_⟩ <;> rfl

/-! ### The tables -/

/-- The checksums of 42_trig_rom.md: the sums of the listings. -/
theorem test_rom_sums : atanListing.sum = 25165300 ∧ asinListing.sum = 32749767 := by decide +kernel

/-- The checksums of 42_trig_rom.md that depend on the order: the sum of (i + 1) x entry, modulo 2 to the 32. -/
theorem test_rom_weighted_sums :
    ((atanListing.zipIdx 1).map fun p => p.1 * p.2).sum % 2 ^ 32 = 3514883702 ∧
    ((asinListing.zipIdx 1).map fun p => p.1 * p.2).sum % 2 ^ 32 = 1103460217 := by decide +kernel

/-! ### Commands -/

/-- R96. -/
theorem test_nop : see id (exec .nop (framing .pad2 1)) = some (framing .pad2 1) := by decide +kernel

/-- V-M, M5: -3.5 goes toward zero. -/
theorem test_smuldiv_negative_tie : see (·.result) (exec .smuldiv (operands (-7) 1 2 0 0)) = some 0xFFFFFFFD := by
  decide +kernel

/-- V-M, M43: the sign of the exact product 2 to the 62. -/
theorem test_smuldiv_by_zero :
    see (·.result) (exec .smuldiv (operands (-2147483648) (-2147483648) 0 0 0)) = some 0x7FFFFFFF := by decide +kernel

/-- V-A, A19: quadrant III, above the diagonal. -/
theorem test_atan2_quadrant : see (·.result) (exec .atan2 (operands (-1000) (-500) 0 0 0)) = some 0xFFFE38AB := by
  decide +kernel

/-- V-A, A38: the magnitude of INT_MIN is exact. -/
theorem test_atan2_int_min :
    see (·.result) (exec .atan2 (operands (-2147483648) 1 0 0 0)) = some 0xFFFEA070 := by decide +kernel

/-- V-S, S5: a negative hypotenuse mirrors. -/
theorem test_asin_mirror : see (·.result) (exec .asin (operands 500 (-1000) 0 0 0)) = some 0xFFFF8AD0 := by
  decide +kernel

/-- V-S, S24: 0.9995 rounds to the last entry. -/
theorem test_asin_top : see (·.result) (exec .asin (operands 9995 10000 0 0 0)) = some 0x00015F90 := by decide +kernel

/-- R161: the last context, and no other. -/
theorem test_pidInit :
    see (fun t => (t.errSum, t.errLast))
      (exec (.pidInit 3) { State.reset with errSum := #v[1, 2, 3, 4], errLast := #v[5, 6, 7, 8] }) =
      some (#v[1, 2, 3, 0], #v[5, 6, 7, 0]) := by decide +kernel

/-- V-P1, P1.4: after P1.3 (sum 1700, last 100) a negative sum rounds to -139. -/
theorem test_pidUpd_trace :
    see (fun t => (t.result, t.errSum[0], t.errLast[0]))
      (exec (.pidUpd 0)
        { operands 2000 100 500 1100 1000 with errSum := #v[1700, 0, 0, 0], errLast := #v[100, 0, 0, 0] }) =
      some (0xFFFFFF75, 1600, 0xFFFFFF9C) := by decide +kernel

/-- V-P4, P4.6: the error and the output saturate, the integral is clamped. -/
theorem test_pidUpd_saturates :
    see (fun t => (t.result, t.errSum[3], t.errLast[3]))
      (exec (.pidUpd 3) (operands 1000 0 0 (-2147483648) 2147483647)) = some (0x7FFFFFFF, 1000000, 0x7FFFFFFF) := by
  decide +kernel

/-- V-T1: STATUS after ESC.START of an armed block. -/
theorem test_escStart_status :
    see statusWord (exec .escStart { State.reset with safetyArmed := true }) = some 0x0001000E := by decide +kernel

/-- V-T5: the compare register wraps. -/
theorem test_escStart_wraps :
    see (·.compare) (exec .escStart { State.reset with timer := 4294967290 }) = some 10 := by decide +kernel

/-- R184: disarming lowers the line at once, arming does not raise it. -/
theorem test_escSafe :
    see (·.srRst) (exec (.escSafe 0) { State.reset with safetyArmed := true, srRst := true }) = some false ∧
    see (fun t => (t.srRst, t.safetyArmed)) (exec (.escSafe 1) State.reset) = some (false, true) := by decide +kernel

/-- V-E1, E1.2 and E1.10: both clamps. -/
theorem test_escSetw :
    see (·.width[1]) (exec (.escSetw 1) (operands 2147483647 0 0 0 0)) = some 4000 ∧
    see (·.width[7]) (exec (.escSetw 7) (operands (-1) 0 0 0 0)) = some 2000 := by decide +kernel

/-- V-E2, E2.3. -/
theorem test_escTotal :
    see (·.result)
      (exec .escTotal { State.reset with width := #v[4000, 4000, 2001, 3000, 3999, 4000, 4000, 2000], extra := 2 }) =
      some 21000 := by decide +kernel

/-- V-E2, E2.6: a request of 5 stores 4. -/
theorem test_escSetx :
    see (·.extra) (exec (.escSetx 5) State.reset) = some 4 ∧ see (·.extra) (exec (.escSetx 3) State.reset) = some 3 := by
  decide +kernel

/-- R189, R190. -/
theorem test_escIsdone :
    see (fun t => (t.result, t.doneFlag)) (exec .escIsdone { State.reset with doneFlag := true }) = some (1, true) := by
  decide +kernel

theorem test_escClrdone :
    see (fun t => (t.doneFlag, t.seqRun)) (exec .escClrdone { State.reset with doneFlag := true, seqRun := true }) =
      some (false, true) := by decide +kernel

/-! ### The port and the TICK step -/

/-- V-C, C2 and C9: a register of the map, and an argument read back. -/
theorem test_port_reads :
    see (·.rdata) (step (given (.read 0x10) State.reset)) = some 0x000007D0 ∧
    see (·.rdata) (step (given (.read 0x00) (operands (-1) 0 0 0 0))) = some 0xFFFFFFFF := by decide +kernel

/-- V-C, C10 and C8: RESULT is read-only, ARG0 is not. -/
theorem test_port_writes :
    see (·.result) (step (given (.write 0x05 0x0000007B) State.reset)) = some 0 ∧
    see (·.args[0]) (step (given (.write 0x00 0xFFFFFFFF) State.reset)) = some 0xFFFFFFFF := by decide +kernel

/-- V-T1, TICK 2: STATUS after the SETTLE action, armed. -/
theorem test_tick_settle : see statusWord (step { framing .settle 1 with timer := 1 }) = some 0x0002A00E := by
  decide +kernel

/-- V-T2, match 11: the terminal state. -/
theorem test_tick_terminal :
    see (fun t => (t.escOut, t.compare, t.elapsed, t.channelIndex, t.doneFlag, t.seqRun))
      (step { due 3 20000 with timer := 20015, compare := 20016 }) = some (true, 22016, 22000, 4, true, false) := by
  decide +kernel

/-- Log 3: a CMD write waits for the engine; the step counts the engine down and keeps the write. -/
theorem test_cmd_held :
    see (fun t => (t.inbox, t.seqWait, t.compare)) (step (given (.write cmdAddr 0x20) (framing .settle 2))) =
      some ([.write cmdAddr 0x20], 1, 16) := by decide +kernel

/-- R98, R99: the transactions of `PID 2, #10, #-3`. -/
theorem test_script_line :
    lineInputs (.pid 2 10 (-3)) = [.write 0x03 10, .write 0x04 0xFFFFFFFD, .write 0x06 0x00000211] := by decide

/-- The placed command runs in the very next step (log 11). -/
theorem test_withFetchWord :
    see (·.result) (step ((operands 3 4 1 0 0).withFetchWord 32 0x00000001)) = some 12 := by decide +kernel

/-! ### Witnesses: for each obligation with hypotheses, states and operands that meet them all together -/

/-- The last legal `idx` of each field of R91, and the first refused one does not count. -/
theorem witness_DecodeOfEncodeIsTheCommand :
    Instr.wellFormed (.pidUpd 3) = true ∧ Instr.wellFormed (.escSafe 1) = true ∧ Instr.wellFormed (.escSetw 7) = true ∧
    Instr.wellFormed .asin = true := by decide

theorem witness_DecodedWordIsItsEncoding : decode 0x00000711 ≠ .ok (.pidUpd 7) ∧ decode 0x00000311 = .ok (.pidUpd 3) :=
  ⟨by decide, rfl⟩

/-- One row read as two commands of it: the row is the same. -/
theorem witness_TableRowSelectsTheCommand :
    (0x00000110 : Word) &&& maskOf (.pidInit 3) = matchOf (.pidInit 3) ∧
    (0x00000110 : Word) &&& maskOf (.pidInit 0) = matchOf (.pidInit 0) := by decide

/-- The three reasons of R95, idle and busy. -/
theorem witness_ReservedWordHasNoEffect :
    ReservedWord 0x00000027 ∧ ReservedWord 0x00000800 ∧ ReservedWord 0x00000410 ∧ ReservedWord 0x00000221 ∧
    (given (.write cmdAddr 0x00000027) State.reset).inbox = [.write cmdAddr 0x00000027] ∧
    (given (.write cmdAddr 0x00000410) (framing .pad3 1)).inbox = [.write cmdAddr 0x00000410] := by
  refine ⟨.inl (by decide), .inr (.inl (by decide)), .inr (.inr ?_), .inr (.inr ?_), rfl, rfl⟩
  · unfold idxLegal; decide
  · unfold idxLegal; decide

theorem witness_NopChangesNothing :
    (given (.write cmdAddr 0) State.reset).inbox = [.write cmdAddr 0x00000000] ∧ State.reset.seqPhase = .idle ∧
    (given (.write cmdAddr 0) (framing .settle 1)).inbox = [.write cmdAddr 0x00000000] ∧
    (framing .settle 1).seqPhase ≠ .idle := ⟨rfl, rfl, rfl, by decide⟩

theorem witness_CommandWriteRunsTheDecodedCommand :
    (given (.write cmdAddr 0x00000722) State.reset).inbox = [.write cmdAddr 0x00000722] ∧
    State.reset.seqPhase = .idle ∧ decode 0x00000722 = .ok (.escSetw 7) ∧
    decode (BitVec.ofNat 32 (0x00000020 % 2 ^ 32)) = .ok .escStart := ⟨rfl, rfl, rfl, rfl⟩

theorem witness_HostReadAnswersTheMappedRegister :
    (given (.read 0x17) State.reset).inbox = [.read 0x17] ∧ (given (.read 0x3F) State.reset).inbox = [.read 0x3F] :=
  ⟨rfl, rfl⟩

theorem witness_StatusShowsTheFlagsAndPins : (given (.read 0x07) (framing .pad2 1)).inbox = [.read 0x07] := rfl

/-- The three clauses at their bounds: ARG4, CMD, and the read-only registers on both sides of CMD and the top. -/
theorem witness_HostWriteStoresExecutesOrIsIgnored :
    ((given (.write 0x04 9) State.reset).inbox = [.write 0x04 9] ∧ (0x04 : Addr).toNat < 5) ∧
    ((given (.write 0x06 9) State.reset).inbox = [.write 0x06 9] ∧ State.reset.seqPhase = .idle) ∧
    (5 ≤ (0x05 : Addr).toNat ∧ (0x05 : Addr) ≠ 0x06) ∧ (5 ≤ (0x07 : Addr).toNat ∧ (0x07 : Addr) ≠ 0x06) ∧
    (5 ≤ (0x3F : Addr).toNat ∧ (0x3F : Addr) ≠ 0x06) ∧ (given (.write 0x3F 9) State.reset).inbox = [.write 0x3F 9] :=
  ⟨⟨rfl, by decide⟩, ⟨rfl, rfl⟩, by decide, by decide, by decide, rfl⟩

/-- Both ends of every reserved range, and that the mapped registers beside them are in none. -/
theorem witness_ReservedAddressesReadZeroAndIgnoreWrites :
    let reserved := fun a : Addr => decide (a = 0x06 ∨ (0x0B ≤ a.toNat ∧ a.toNat ≤ 0x0F) ∨
      (0x18 ≤ a.toNat ∧ a.toNat ≤ 0x1F) ∨ (0x24 ≤ a.toNat ∧ a.toNat ≤ 0x27) ∨ 0x2C ≤ a.toNat)
    ([0x06, 0x0B, 0x0F, 0x18, 0x1F, 0x24, 0x27, 0x2C, 0x3F] : List Addr).all reserved = true ∧
    ([0x00, 0x05, 0x07, 0x0A, 0x10, 0x17, 0x20, 0x23, 0x28, 0x2B] : List Addr).any reserved = false ∧
    (given (.write 0x2C 1) State.reset).inbox = [.write 0x2C 1] := ⟨by decide, by decide, rfl⟩

theorem witness_BusyHoldsCommandWritesForABoundedTime :
    (given (.write cmdAddr 0x21) (framing .settle 2)).inbox = [.write cmdAddr 0x21] ∧
    (given (.write cmdAddr 0x21) (framing .settle 2)).seqPhase ≠ .idle ∧
    Inv (given (.write cmdAddr 0x21) (framing .settle 2)) ∧ Inv (given (.write cmdAddr 0x21) (framing .pad3 1)) ∧
    (given (.read 0x3F) (framing .pad1 1)).inbox = [.read 0x3F] ∧
    (given (.write 0x04 7) (framing .pad1 1)).inbox = [.write 0x04 7] ∧ (0x04 : Addr).toNat < 5 :=
  ⟨rfl, by decide, inv_of_check reference_valid (by decide +kernel), inv_of_check reference_valid (by decide +kernel),
   rfl, rfl, by decide⟩

theorem witness_MuldivScriptComputesTheScaledProduct :
    let s := { State.reset with inbox := lineInputs (.muldiv (-2147483648) 2147483647 0) }
    s.seqPhase = .idle ∧ s.inbox = lineInputs (.muldiv (-2147483648) 2147483647 0) ∧
    (-2147483648 : Int) ≤ -2147483648 ∧ (2147483647 : Int) ≤ 2147483647 ∧ (-2147483648 : Int) ≤ 0 :=
  ⟨rfl, rfl, by decide, by decide, by decide⟩

/-- An idle and a busy state of the invariant, each with a next state. -/
theorem witness_EveryStepKeepsTheInvariant :
    Inv State.reset ∧ (see id (step State.reset)).isSome = true ∧ Inv (framing .pad1 1) ∧
    (see id (step (framing .pad1 1))).isSome = true :=
  ⟨inv_reset, by decide +kernel, inv_framing.2.2.1, by decide +kernel⟩

theorem witness_ResetMeetsTheInvariant : BuildValid Config.Build.reference ∧ BuildValid boundaryBuild :=
  ⟨reference_valid, boundaryBuild_valid⟩

theorem witness_NothingEverStopsTheBlock : Inv State.reset ∧ Inv (framing .settle 2) ∧ Inv (due 3 18001) :=
  ⟨inv_reset, inv_framing.1, inv_due.2.2⟩

theorem witness_ResetLeavesTheTabledValues : BuildValid Config.Build.reference ∧ BuildValid boundaryBuild :=
  ⟨reference_valid, boundaryBuild_valid⟩

theorem witness_ResetInputRestoresTheResetState : (given .reset (framing .pad2 1)).inbox = [.reset] := rfl

theorem witness_NoStepChangesTheBuild : see (·.build) (step State.reset) = some Config.Build.reference := by
  decide +kernel

theorem witness_OnlyTheHostWritesArguments :
    (see id (exec .smuldiv (operands 1 2 3 4 5))).isSome = true ∧
    (see id (tickStep (operands 1 2 3 4 5))).isSome = true ∧ (0x04 : Addr).toNat < 5 ∧
    (given (.write 0x04 9) State.reset).inbox = [.write 0x04 9] :=
  ⟨by decide +kernel, by decide +kernel, by decide, rfl⟩

/-- A command of the other seven; one of the six, with the last context; a TICK; the port write. -/
theorem witness_ExactlySixCommandsWriteResult :
    (see id (exec (.escSetx 7) State.reset)).isSome = true ∧
    (Instr.escSetx 7 ≠ .smuldiv ∧ Instr.escSetx 7 ≠ .atan2 ∧ Instr.escSetx 7 ≠ .asin ∧
      (∀ c, Instr.escSetx 7 ≠ .pidUpd c) ∧ Instr.escSetx 7 ≠ .escTotal ∧ Instr.escSetx 7 ≠ .escIsdone) ∧
    (∃ c, Instr.pidUpd 3 = .pidUpd c ∧ c.toNat < 4) ∧ (see id (tickStep State.reset)).isSome = true ∧
    (given (.write 0x05 123) State.reset).inbox = [.write 0x05 123] :=
  ⟨by decide +kernel, by decide, ⟨3, rfl, by decide⟩, by decide +kernel, rfl⟩

/-- Every clause has a command that answers a next state. -/
theorem witness_CommandsLeaveOtherRegistersAlone :
    [Instr.smuldiv, .atan2, .asin, .escTotal, .escIsdone, .pidInit 3, .pidInit 4, .pidUpd 3, .pidUpd 7, .escSetw 7,
      .escSafe 1, .escSafe 2, .escSetx 7, .escClrdone, .escStart, .nop].all
      (fun i => (see id (exec i (operands 1 2 3 4 5))).isSome) = true := by decide +kernel

/-- Each clause: a state in which the writer of the element changes it. -/
theorem witness_ElementsHaveOnlyTheirWriters :
    see (·.width[0]) (exec (.escSetw 0) (operands 3000 0 0 0 0)) = some 3000 ∧
    see (·.extra) (exec (.escSetx 7) State.reset) = some 4 ∧
    see (·.safetyArmed) (exec (.escSafe 1) State.reset) = some true ∧
    see (·.srRst) (exec (.escSafe 0) { State.reset with srRst := true, safetyArmed := true }) = some false ∧
    see (·.doneFlag) (exec .escClrdone { State.reset with doneFlag := true }) = some false ∧
    (see id (exec .escClrdone State.reset)).isSome = true ∧ Instr.escClrdone ≠ .escStart := by decide +kernel

theorem witness_TickTouchesOnlyTheSequencer :
    (see id (tickStep State.reset)).isSome = true ∧ (see id (tickStep (due 3 18001))).isSome = true := by decide +kernel

/-- A zero denominator with each sign of the product. -/
theorem witness_SmuldivByZeroFollowsTheExactSign :
    ((operands 3 4 0 0 0).args[2]).toInt = 0 ∧ (0 < (3 : Int) ∧ 0 < (4 : Int)) ∧
    ((operands (-3) (-4) 0 0 0).args[0]).toInt < 0 ∧ ((operands 3 (-4) 0 0 0).args[1]).toInt < 0 ∧
    ((operands 0 5 0 0 0).args[0]).toInt = 0 := by decide +kernel

/-- The four sign rows, a product below half the divisor, and a divisor of magnitude 1. -/
theorem witness_SmuldivClosedFormBySign :
    ∀ s ∈ [operands 7 1 2 0 0, operands (-7) 1 2 0 0, operands 7 1 (-2) 0 0, operands (-7) 1 (-2) 0 0,
      operands (-499) 1 1000 0 0, operands 5 1 (-1) 0 0], (s.args[2]).toInt ≠ 0 := by decide +kernel

theorem witness_RoundingDivisionIsWithinOneUnit :
    (2 : Int) ≠ 0 ∧ (0 : Int) ≤ 7 * 2 ∧ (-7 : Int) * 2 < 0 ∧ rdiv (-7) 2 = -3 ∧ rdiv (-10) 3 = -3 := by decide

/-- Vectors A1 to A9, one per clause. -/
theorem witness_Atan2OnAxesAndDiagonals :
    BuildValid State.reset.build ∧
    ∀ p ∈ [((0, 0), 0), ((0, 1000), 0), ((0, -1000), 180000), ((1000, 0), 90000), ((-1000, 0), -90000),
        ((1000, 1000), 45000), ((-1000, -1000), -135000), ((-1000, 1000), -45000), ((1000, -1000), 135000)],
      see (·.result.toInt) (exec .atan2 (operands p.1.1 p.1.2 0 0 0)) = some p.2 :=
  ⟨reference_valid, by decide +kernel⟩

/-- Mirrored and exchanged operands: A12, A14 and A13; and the edge `y = 0` with `x` not negative. -/
theorem witness_Atan2RangeAndSymmetry :
    BuildValid (operands 500 1000 0 0 0).build ∧
    ((operands (-500) 1000 0 0 0).args[0]).toInt = -((operands 500 1000 0 0 0).args[0]).toInt ∧
    (operands (-500) 1000 0 0 0).args[1] = (operands 500 1000 0 0 0).args[1] ∧
    ((operands 500 1000 0 0 0).args[0]).toInt ≠ 0 ∧ 0 ≤ ((operands 0 0 0 0 0).args[1]).toInt ∧
    (operands 1000 500 0 0 0).args[0] = (operands 500 1000 0 0 0).args[1] ∧
    (operands 1000 500 0 0 0).args[1] = (operands 500 1000 0 0 0).args[0] ∧
    0 < ((operands 500 1000 0 0 0).args[0]).toInt ∧ 0 < ((operands 500 1000 0 0 0).args[1]).toInt ∧
    (see id (exec .atan2 (operands 500 1000 0 0 0))).isSome = true :=
  ⟨reference_valid, by decide +kernel⟩

/-- S1, S16, S13 at the bound, S22, and the mirrored pairs S3, S4, S5. -/
theorem witness_AsinClampsAndMirrors :
    BuildValid State.reset.build ∧
    ((operands 0 1000 0 0 0).args[0]).toInt = 0 ∧ ((operands (-5) 0 0 0 0).args[1]).toInt = 0 ∧
    (0 < (1000 : Int).natAbs ∧ (1000 : Int).natAbs ≤ (1000 : Int).natAbs) ∧
    (1 : Int).natAbs * 2000 < (2001 : Int).natAbs ∧
    ((operands (-500) 1000 0 0 0).args[0]).toInt = -((operands 500 1000 0 0 0).args[0]).toInt ∧
    (operands (-500) 1000 0 0 0).args[1] = (operands 500 1000 0 0 0).args[1] ∧
    ((operands 500 (-1000) 0 0 0).args[1]).toInt = -((operands 500 1000 0 0 0).args[1]).toInt ∧
    ((operands 500 1000 0 0 0).args[1]).toInt ≠ 0 ∧ (see id (exec .asin (operands 500 1000 0 0 0))).isSome = true :=
  ⟨reference_valid, by decide +kernel⟩

/-- The last context and the first `idx` that names none. -/
theorem witness_PidInitZeroesItsContext : (3 : Idx).toNat < 4 ∧ 4 ≤ (4 : Idx).toNat := by decide

theorem witness_PidUpdateFollowsItsRule : (3 : Idx).toNat < 4 ∧ 4 ≤ (4 : Idx).toNat := by decide

/-- Gains 1.0, 0, 0 with a positive and a negative error (P2.1, P2.2). -/
theorem witness_PidUnitGainReturnsTheError :
    (3 : Idx).toNat < 4 ∧ ∀ s ∈ [operands 1000 0 0 0 5, operands 1000 0 0 0 (-5)],
      (s.args[0]).toInt = 1000 ∧ (s.args[1]).toInt = 0 ∧ (s.args[2]).toInt = 0 := by decide +kernel

/-- The thresholds of P3: 499, 500, -499, -500. -/
theorem witness_PidProportionalRounding :
    (2 : Idx).toNat < 4 ∧
    ∀ s ∈ [operands 1 0 0 0 499, operands 1 0 0 0 500, operands 1 0 0 0 (-499), operands 1 0 0 0 (-500)],
      (s.args[1]).toInt = 0 ∧ (s.args[2]).toInt = 0 := by decide +kernel

/-- Each clause: a PID command, another command, a TICK, and two states that differ in another context. -/
theorem witness_PidContextsAreIndependent :
    (see id (exec (.pidInit 1) State.reset)).isSome = true ∧ (see id (exec (.pidUpd 1) State.reset)).isSome = true ∧
    (see id (exec .escStart State.reset)).isSome = true ∧ (see id (tickStep State.reset)).isSome = true ∧
    (1 : Idx).toNat = (1 : Fin 4).val ∧
    (let s := operands 1 2 3 4 5
     let s' := { s with errSum := #v[9, 0, 0, 0], errLast := #v[0, 0, 8, 0] }
     s'.args = s.args ∧ s'.errSum[1] = s.errSum[1] ∧ s'.errLast[1] = s.errLast[1] ∧
       (see id (exec (.pidUpd 1) s')).isSome = true) := by decide +kernel

/-- The hypotheses, with ticks at both ends of every clause for the reference build (LEAD_TICKS 16, T_SETTLE 2,
T_PAD 1). -/
theorem witness_EscStartPinSequence :
    Inv State.reset ∧ State.reset.seqPhase = .idle ∧ State.reset.inbox = [] ∧
    exec .escStart State.reset = .next (startFrame State.reset) ∧
    (1 < 2 ∧ (2 ≤ 2 ∧ 2 < 2 + 1) ∧ (2 + 1 ≤ 3 ∧ 3 < 2 + 2 * 1) ∧ (2 + 2 * 1 ≤ 4 ∧ 4 < 2 + 3 * 1) ∧ 2 + 3 * 1 ≤ 5 ∧
      16 ≤ State.reset.build.leadTicks) := ⟨inv_reset, rfl, rfl, rfl, by decide⟩

theorem witness_EscSafeArmsAndDisarms : 2 ≤ (2 : Idx).toNat ∧ 2 ≤ (7 : Idx).toNat := by decide

/-- A disarmed state of the interlock that runs on; and the step in which the line rises. -/
theorem witness_DisarmedNeverRaisesTheResetLine :
    InterlockHolds State.reset ∧ (see id (Host.Core.run core 3 State.reset)).isSome = true ∧
    (framing .settle 1).srRst = false ∧ see (·.srRst) (step (framing .settle 1)) = some true :=
  ⟨fun _ => rfl, by decide +kernel, rfl, by decide +kernel⟩

theorem witness_EscSetwStoresTheClampedWidth : BuildValid State.reset.build ∧ BuildValid boundaryBuild :=
  ⟨reference_valid, boundaryBuild_valid⟩

theorem witness_EscTotalSumsTheActiveWidths :
    Inv State.reset ∧ Inv { State.reset with extra := 4 } :=
  ⟨inv_reset, inv_of_check reference_valid (by decide +kernel)⟩

/-- The last clause: no frame, with the timer at the compare register. -/
theorem witness_TickRunsTimerEngineMatchInOrder :
    State.reset.seqPhase = .idle ∧
    ¬ ({ due 0 0 with seqRun := false }.seqRun = true ∧ { due 0 0 with seqRun := false }.timer + 1 = 16) :=
  ⟨rfl, by decide⟩

theorem witness_StepTakesTheNextInput :
    State.reset.inbox = [] ∧ (given .tick State.reset).inbox = [.tick] := ⟨rfl, rfl⟩

/-- No frame, with the timer at the compare register; and a frame one tick too early. -/
theorem witness_QuietTickChangesOnlyTheTimer :
    ({ due 0 0 with seqRun := false }.seqPhase = .idle ∧ { due 0 0 with seqRun := false }.seqRun = false) ∧
    ({ due 0 0 with timer := 14 }.seqPhase = .idle ∧ { due 0 0 with timer := 14 }.timer + 1 ≠ (due 0 0).compare) :=
  ⟨⟨rfl, rfl⟩, rfl, by decide⟩

/-- Each clause: counting, and the action of each phase. -/
theorem witness_EngineRunsTheResetSequence :
    (Inv (framing .settle 2) ∧ 1 < (framing .settle 2).seqWait) ∧
    (Inv (framing .settle 1) ∧ (framing .settle 1).seqWait = 1 ∧ (framing .settle 1).seqPhase = .settle) ∧
    (Inv (framing .pad1 1) ∧ (framing .pad1 1).seqWait = 1 ∧ (framing .pad1 1).seqPhase = .pad1) ∧
    (Inv (framing .pad2 1) ∧ (framing .pad2 1).seqWait = 1 ∧ (framing .pad2 1).seqPhase = .pad2) ∧
    (Inv (framing .pad3 1) ∧ (framing .pad3 1).seqWait = 1 ∧ (framing .pad3 1).seqPhase = .pad3) :=
  ⟨⟨inv_framing.1, by decide⟩, ⟨inv_framing.2.1, rfl, rfl⟩, ⟨inv_framing.2.2.1, rfl, rfl⟩,
   ⟨inv_framing.2.2.2.1, rfl, rfl⟩, inv_framing.2.2.2.2, rfl, rfl⟩

/-- Each outcome: below the active count; at it with the budget just met; at it with the budget just exceeded. -/
theorem witness_CompareMatchAdvancesRepeatsOrStops :
    (Inv (due 2 4000) ∧ Inv (due 3 18000) ∧ Inv (due 3 18001)) ∧
    ∀ s ∈ [due 2 4000, due 3 18000, due 3 18001],
      s.seqRun = true ∧ s.timer + 1 = s.compare ∧ s.width[s.channelIndex.toNat]? = some 2000 :=
  ⟨inv_due, by decide +kernel⟩

theorem witness_FrameEndsOnlyPastItsBudget :
    (due 3 18001).doneFlag = false ∧ see (·.doneFlag) (step (due 3 18001)) = some true := by decide +kernel

/-- A step that toggles and one that does not. -/
theorem witness_OutputTogglesExactlyAtAMatch :
    (due 2 4000).inbox.head? ≠ some .reset ∧ see (·.escOut) (step (due 2 4000)) = some true ∧
    State.reset.inbox.head? ≠ some .reset ∧ see (·.escOut) (step State.reset) = some false := by decide +kernel

theorem witness_MatchFallsExactlyWhenDue :
    Inv (framing .settle 2) ∧ (framing .settle 2).seqRun = true ∧ (framing .settle 2).inbox = [] ∧
    (framing .settle 2).width[(framing .settle 2).channelIndex.toNat]? = some 2000 ∧ Inv (due 3 18001) :=
  ⟨inv_framing.1, rfl, rfl, by decide +kernel, inv_due.2.2⟩

/-- A frame that is padded (W = 8000) and one past its budget in its first round (W = 32000, V-T3). -/
theorem witness_FrameLengthFollowsTheWidths :
    (Inv State.reset ∧ State.reset.seqPhase = .idle ∧ State.reset.inbox = [] ∧
      exec .escStart State.reset = .next (startFrame State.reset)) ∧
    (let s := { State.reset with width := Vector.replicate 8 4000, extra := 4 }
     Inv s ∧ s.seqPhase = .idle ∧ s.inbox = [] ∧ exec .escStart s = .next (startFrame s)) :=
  ⟨⟨inv_reset, rfl, rfl, rfl⟩, inv_of_check reference_valid (by decide +kernel), rfl, rfl, rfl⟩

end Sys2Proof.Tests
end

section
/-! The state elements of 10_state.md: STATUS (R40), the argument registers (R20), RESULT (R21) and the reset table (R45). -/

namespace Sys2Proof.Proofs

open Sys2Proof.Machine Sys2Proof.Safety Sys2Proof.Laws

/-! ### A step that takes its input -/

/-- An input that the port is ready for is served (R69, R73). -/
theorem step_of_ready {s : State} {x : Input} {rest : List Input} (h : s.inbox = x :: rest) (hr : ready s x = true) :
    step s = serve x { s with inbox := rest } := by
  simp [step, advance, h, hr]

/-- A host read is never held (R62, R69). -/
theorem step_read {s : State} {a : Addr} {rest : List Input} (h : s.inbox = .read a :: rest) :
    step s = .next { s with inbox := rest, rdata := portRead s a } :=
  step_of_ready h rfl

/-- Only a write to CMD is held (R69). -/
theorem step_write_of_ne_cmd {s : State} {a : Addr} {v : Word} {rest : List Input} (h : s.inbox = .write a v :: rest)
    (ha : a ≠ cmdAddr) : step s = hostWrite a v { s with inbox := rest } :=
  step_of_ready h (by simp [ready, ha])

theorem ne_cmdAddr_of_lt {a : Addr} (ha : a.toNat < 5) : a ≠ cmdAddr := by
  rintro rfl
  exact absurd ha (by decide)

/-- A write to an argument register completes in every state and stores its word (R20, R63). -/
theorem step_write_arg {s : State} {a : Addr} {v : Word} {rest : List Input} (h : s.inbox = .write a v :: rest)
    (ha : a.toNat < 5) : step s = .next (writeArg { s with inbox := rest } ⟨a.toNat, ha⟩ v) := by
  rw [step_write_of_ne_cmd h (ne_cmdAddr_of_lt ha), hostWrite, dif_pos ha]

/-! ### Reads -/

theorem portRead_result (s : State) : portRead s 0x05 = s.result := rfl

theorem portRead_status (s : State) : portRead s 0x07 = statusWord s := rfl

theorem portRead_arg (s : State) {a : Addr} (ha : a.toNat < 5) : portRead s a = s.args[a.toNat] := dif_pos ha

/-- A write to one argument register changes no other word the host can read (R20). -/
theorem sameReads_writeArg (s : State) (a : Addr) (v : Word) (ha : a.toNat < 5) :
    SameReads s (writeArg s ⟨a.toNat, ha⟩ v) [a] := by
  intro b hb
  have hne : a.toNat ≠ b.toNat := fun h => hb (by simp [BitVec.eq_of_toNat_eq h])
  exact portRead_congr (fun h => Vector.getElem_set_ne ha h hne) (fun _ => rfl) (fun _ => rfl) (fun _ => rfl)
    (fun _ => rfl) (fun _ => rfl) (fun _ => rfl) (fun _ => rfl) (fun _ => rfl)

/-! ### What a TICK step and a command leave alone -/

theorem tickStep_args {s t : State} (h : tickStep s = .next t) : t.args = s.args := by
  rcases tickStep_cases h with ⟨-, rfl⟩ | ⟨-, -, -, rfl⟩ <;> simp

theorem tickStep_result {s t : State} (h : tickStep s = .next t) : t.result = s.result := by
  rcases tickStep_cases h with ⟨-, rfl⟩ | ⟨-, -, -, rfl⟩ <;> simp

theorem exec_args {i : Instr} {s t : State} (h : exec i s = .next t) : t.args = s.args := by
  rcases exec_cases h with rfl | ⟨_, -, rfl⟩ | ⟨_, _, -, -, rfl⟩ | ⟨_, _, -, -, rfl⟩ | ⟨-, rfl⟩ | ⟨_, _, -, rfl⟩ |
    ⟨_, -, rfl⟩ | ⟨_, -, rfl⟩ | ⟨-, rfl⟩ <;> rfl

/-- A command that changes RESULT is one of the six (R21). -/
theorem exec_result {i : Instr} {s t : State} (h : exec i s = .next t) :
    t.result = s.result ∨ (i = .smuldiv ∨ i = .atan2 ∨ i = .asin ∨ i = .escTotal ∨ i = .escIsdone) ∨
      ∃ c, i = .pidUpd c := by
  rcases exec_cases h with rfl | ⟨_, hi, -⟩ | ⟨_, _, -, -, rfl⟩ | ⟨c, _, -, hi, -⟩ | ⟨-, rfl⟩ | ⟨_, _, -, rfl⟩ |
    ⟨_, -, rfl⟩ | ⟨_, -, rfl⟩ | ⟨-, rfl⟩
  case inr.inl => exact .inr (.inl hi)
  case inr.inr.inr.inl => exact .inr (.inr ⟨c, hi⟩)
  all_goals exact .inl rfl

/-! ### The six commands that write RESULT -/

/-- The reset state with a RESULT that none of the six commands computes from operands of 0. -/
def staleResult : State := { State.reset with result := 1 }

theorem pidUpdate_staleResult (k : Fin 4) : (pidUpdate k staleResult).result = 0 := by
  revert k
  decide

/-- Each of the six, with every legal context, replaces the stale RESULT (R21). -/
theorem exec_staleResult {i : Instr} (hi : i = .smuldiv ∨ i = .atan2 ∨ i = .asin ∨
    (∃ c, i = .pidUpd c ∧ c.toNat < 4) ∨ i = .escTotal ∨ i = .escIsdone) :
    ∃ t, exec i staleResult = .next t ∧ t.result ≠ staleResult.result := by
  rcases hi with rfl | rfl | rfl | ⟨c, rfl, hc⟩ | rfl | rfl
  case inr.inr.inr.inl =>
    refine ⟨pidUpdate ⟨c.toNat, hc⟩ staleResult, by simp [exec, execPidUpd, contextOf_lt c hc], ?_⟩
    rw [pidUpdate_staleResult]
    decide
  all_goals exact ⟨_, rfl, by decide⟩

/-! ### The fields of STATUS -/

/-- The one-bit fields of STATUS, bit 7 included (R40). -/
theorem statusWord_bits (s : State) :
    (statusWord s).getLsbD 0 = s.doneFlag ∧ (statusWord s).getLsbD 1 = s.safetyArmed ∧
    (statusWord s).getLsbD 2 = busy s ∧ (statusWord s).getLsbD 3 = s.seqRun ∧ (statusWord s).getLsbD 7 = false ∧
    (statusWord s).getLsbD 12 = s.escOut ∧ (statusWord s).getLsbD 13 = s.srData ∧
    (statusWord s).getLsbD 14 = s.srClk ∧ (statusWord s).getLsbD 15 = s.srRst := by
  unfold statusWord
  repeat rw [BitVec.getLsbD_append]
  simp

/-- The wider fields of STATUS, the zero field included (R40). -/
theorem statusWord_fields (s : State) :
    (statusWord s).extractLsb' 4 3 = s.extra ∧ (statusWord s).extractLsb' 8 4 = s.channelIndex ∧
    (statusWord s).extractLsb' 16 3 = phaseCode s.seqPhase ∧ (statusWord s).extractLsb' 19 13 = 0 := by
  unfold statusWord
  refine ⟨?_, ?_, ?_, ?_⟩
  all_goals repeat rw [BitVec.extractLsb'_append_eq_of_le (by decide)]
  · exact BitVec.extractLsb'_append_eq_right
  · exact BitVec.extractLsb'_append_eq_right
  · exact BitVec.extractLsb'_append_eq_right
  · exact BitVec.extractLsb'_eq_self

/-! ### The statements -/

/-- Settles O9: STATUS is its fields appended, so each field is a bit or a slice of it; a read only sets `rdata`. -/
theorem statusShowsTheFlagsAndPins : Obligations.StatusShowsTheFlagsAndPins := by
  refine ⟨fun s => ?_, fun s rest h => ?_⟩
  · obtain ⟨done, armed, busy, run, zero, out, data, clk, rst⟩ := statusWord_bits s
    obtain ⟨extra, index, phase, upper⟩ := statusWord_fields s
    refine ⟨done, armed, busy, run, extra, zero, index, out, data, clk, rst, ?_, upper⟩
    rw [phase]
    cases s.seqPhase <;> rfl
  · rw [step_read h, portRead_status]

/-- Settles O20: every case of `exec_cases` and `tickStep_cases` keeps the arguments, and a host write to one is
`writeArg`. -/
theorem onlyTheHostWritesArguments : Obligations.OnlyTheHostWritesArguments := by
  refine ⟨fun _ _ _ => exec_args, fun _ _ => tickStep_args, fun s a v rest ha h => ?_⟩
  refine ⟨_, step_write_arg h ha, ?_, sameReads_writeArg { s with inbox := rest } a v ha⟩
  rw [portRead_arg _ ha]
  exact Vector.getElem_set_self ha

/-- Settles O21: the cases of `exec_cases` that write RESULT are the six commands, and each replaces a stale 1. -/
theorem exactlySixCommandsWriteResult : Obligations.ExactlySixCommandsWriteResult := by
  refine ⟨fun i s t h hi => ?_, fun i hi => ⟨staleResult, exec_staleResult hi⟩, fun _ _ => tickStep_result,
    portRead_result, fun s v rest h => ?_⟩
  · obtain ⟨h1, h2, h3, h4, h5, h6⟩ := hi
    rcases exec_result h with hr | hw | ⟨c, hc⟩
    · exact hr
    · simp [h1, h2, h3, h5, h6] at hw
    · exact absurd hc (h4 c)
  · rw [step_write_of_ne_cmd h (by decide)]
    rfl

/-- Settles O17: the reset state is the table of R45; a width of twice a legal BASE_TICK (R7) fits its register. -/
theorem resetLeavesTheTabledValues : Obligations.ResetLeavesTheTabledValues := by
  intro b hb
  have hfit : 2 * b.baseTick < 2 ^ 32 := by
    have := hb.baseTick
    omega
  have hwidth : (BitVec.ofNat 32 (2 * b.baseTick)).toNat = 2 * b.baseTick := Nat.mod_eq_of_lt hfit
  simp [State.resetOf, hwidth]

end Sys2Proof.Proofs
end

section
/-! The host port (20_memory.md): the register map of R64 read out (R62), and the three things a write does (R63, R66). -/

namespace Sys2Proof.Proofs

open Sys2Proof.Machine Sys2Proof.Safety Sys2Proof.Laws

/-! ### The banks of the register map -/

/-- The host port has 64 word addresses (R60). -/
theorem addr_toNat {n : Nat} (h : n < 64) : (BitVec.ofNat 6 n : Addr).toNat = n := Nat.mod_eq_of_lt h

/-- `WIDTH0` .. `WIDTH7` (R64). -/
theorem portRead_width (s : State) {a : Addr} {i : Nat} (hi : i < 8) (ha : a.toNat = 0x10 + i) :
    portRead s a = s.width[i] := by
  simp (disch := omega) only [portRead, ha, dif_neg, if_neg, dif_pos, Nat.add_sub_cancel_left]

/-- `PID_ERRSUM0` .. `PID_ERRSUM3` (R64). -/
theorem portRead_errSum (s : State) {a : Addr} {i : Nat} (hi : i < 4) (ha : a.toNat = 0x20 + i) :
    portRead s a = s.errSum[i] := by
  simp (disch := omega) only [portRead, ha, dif_neg, if_neg, dif_pos, Nat.add_sub_cancel_left]

/-- `PID_ERRLAST0` .. `PID_ERRLAST3` (R64). -/
theorem portRead_errLast (s : State) {a : Addr} {i : Nat} (hi : i < 4) (ha : a.toNat = 0x28 + i) :
    portRead s a = s.errLast[i] := by
  simp (disch := omega) only [portRead, ha, dif_neg, if_neg, dif_pos, Nat.add_sub_cancel_left]

/-- CMD and the reserved addresses are in no row of the map that has a word to read (R41, R66). -/
theorem portRead_reserved (s : State) {a : Addr} (ha : a = cmdAddr ∨ (0x0B ≤ a.toNat ∧ a.toNat ≤ 0x0F) ∨
    (0x18 ≤ a.toNat ∧ a.toNat ≤ 0x1F) ∨ (0x24 ≤ a.toNat ∧ a.toNat ≤ 0x27) ∨ 0x2C ≤ a.toNat) :
    portRead s a = 0 := by
  rcases ha with rfl | ha
  · rfl
  · simp (disch := omega) only [portRead, dif_neg, if_neg]

/-! ### Writes -/

/-- CMD is taken while the engine is idle, and its word is executed in the step (R63, R69). -/
theorem step_write_cmd {s : State} {v : Word} {rest : List Input} (h : s.inbox = .write cmdAddr v :: rest)
    (hs : s.seqPhase = .idle) : step s = commandWrite v { s with inbox := rest } :=
  step_of_ready h (by simp [ready, busy, hs])

/-- A write to a read-only register or to a reserved address is taken and has no effect (R66). -/
theorem step_write_ignored {s : State} {a : Addr} {v : Word} {rest : List Input} (h : s.inbox = .write a v :: rest)
    (ha : 5 ≤ a.toNat) (hc : a ≠ cmdAddr) : step s = .next { s with inbox := rest } := by
  rw [step_write_of_ne_cmd h hc, hostWrite, dif_neg (Nat.not_lt.2 ha), if_neg hc]

/-! ### The statements -/

/-- Settles O8: a read is never held and sets only `rdata`; a single register stands at its address by evaluation, a
bank at its base plus the index. -/
theorem hostReadAnswersTheMappedRegister : Obligations.HostReadAnswersTheMappedRegister := by
  refine ⟨fun _ _ _ => step_read, fun s => ⟨fun k => ?_, portRead_result s, portRead_status s, rfl, rfl, rfl,
    fun k => ?_, fun k => ?_, fun k => ?_⟩⟩
  · have hk : (BitVec.ofNat 6 k).toNat = k := addr_toNat (by omega)
    simp [portRead_arg s (hk ▸ k.isLt), hk]
  · exact portRead_width s k.isLt (addr_toNat (by omega))
  · exact portRead_errSum s k.isLt (addr_toNat (by omega))
  · exact portRead_errLast s k.isLt (addr_toNat (by omega))

/-- Settles O10: a branch of the port for each of the three kinds of address. -/
theorem hostWriteStoresExecutesOrIsIgnored : Obligations.HostWriteStoresExecutesOrIsIgnored := by
  refine fun s a v rest h => ⟨step_write_arg h, ?_, step_write_ignored h⟩
  rintro rfl
  exact step_write_cmd h

/-- Settles O11: the reserved addresses lie between the ranges of the map, and a write outside ARG and CMD is ignored. -/
theorem reservedAddressesReadZeroAndIgnoreWrites : Obligations.ReservedAddressesReadZeroAndIgnoreWrites :=
  ⟨fun s _ => portRead_reserved s, fun _ _ _ _ ha hc h => step_write_ignored h ha hc⟩

end Sys2Proof.Proofs
end

section
/-! The opcode map (30_encoding.md): what decodes to a command (R90 to R95), and the columns `match` and `mask` as
fields of a word (R93). -/

namespace Sys2Proof.Proofs

open Sys2Proof.Laws

/-! ### The decoder -/

/-- The path parameters are 1 for this hardware, so no opcode is left out (R7, R94). -/
@[simp] theorem opcodeLeftOut_eq_false (i : Instr) : opcodeLeftOut i = false := by
  cases i <;> rfl

theorem commandOf_fields (i : Instr) : commandOf (opcodeOf i) (idxOf i) = some i := by
  cases i <;> rfl

theorem opcodeOf_commandOf {op : BitVec 8} {x : Idx} {i : Instr} (h : commandOf op x = some i) : opcodeOf i = op := by
  unfold commandOf at h
  split at h
  case h_14 => cases h
  all_goals
    cases h
    exact BitVec.eq_of_toNat_eq (Eq.symm ‹op.toNat = _›)

/-- A word is a command's own word exactly when it has a zero upper field, the opcode and the `idx` (R90). -/
theorem encode_eq_iff (i : Instr) (w : Word) :
    encode i = w ↔ zeroField w = 0 ∧ idxField w = idxOf i ∧ opcodeField w = opcodeOf i := by
  conv_lhs => rw [word_eq_fields w, eq_comm]
  exact append_eq_iff ..

/-- The words that decode to a command are the words of the well-formed commands (R90 to R95). -/
theorem decode_eq_ok_iff {w : Word} {i : Instr} : decode w = .ok i ↔ i.wellFormed = true ∧ encode i = w := by
  rw [encode_eq_iff]
  constructor
  · intro h
    unfold decode at h
    split at h
    · cases h
    · next hz =>
      split at h
      · cases h
      · next j hj =>
        rw [opcodeLeftOut_eq_false, if_neg Bool.false_ne_true] at h
        split at h
        · next hwf =>
          cases h
          exact ⟨hwf.2, not_not.1 hz, hwf.1.symm, (opcodeOf_commandOf hj).symm⟩
        · cases h
  · rintro ⟨hwf, hz, hx, ho⟩
    simp [decode, hz, hx, ho, commandOf_fields, hwf]

/-! ### The columns of the map -/

/-- The bits of `idx` that a row fixes to 0: those above the legal encodings of its field (R91, R93). -/
def idxMask (op : BitVec 8) : Idx :=
  if op = 0x10 ∨ op = 0x11 then 0b100
  else if op = 0x21 then 0b110
  else if op = 0x22 ∨ op = 0x24 then 0
  else BitVec.allOnes 3

theorem matchOf_eq (i : Instr) : matchOf i = (0 : BitVec 21) ++ (0 : Idx) ++ opcodeOf i := by
  cases i <;> simp [matchOf, opcodeOf]

theorem maskOf_eq (i : Instr) :
    maskOf i = BitVec.allOnes 21 ++ idxMask (opcodeOf i) ++ BitVec.allOnes 8 := by
  cases i <;> simp [maskOf, opcodeOf, idxMask]

/-- A command word exists for a command exactly when its `idx` has no bit that the row fixes (R91). -/
theorem wellFormed_iff_and_idxMask (i : Instr) : i.wellFormed = true ↔ idxOf i &&& idxMask (opcodeOf i) = 0 := by
  cases i
  case pidInit c | pidUpd c | escSafe c | escSetw c | escSetx c => revert c; decide
  all_goals decide

/-- A row is its opcode (R93). -/
theorem matchOf_eq_matchOf_iff (i j : Instr) : matchOf i = matchOf j ↔ opcodeOf i = opcodeOf j := by
  rw [matchOf_eq, matchOf_eq, append_eq_iff]
  simp

/-- A word matches a row exactly when its fields do (R93). -/
theorem and_maskOf_eq_matchOf_iff (w : Word) (i : Instr) : w &&& maskOf i = matchOf i ↔
    zeroField w = 0 ∧ idxField w &&& idxMask (opcodeOf i) = 0 ∧ opcodeField w = opcodeOf i := by
  conv_lhs => rw [word_eq_fields w, maskOf_eq, matchOf_eq, and_append, append_eq_iff]
  simp only [BitVec.and_allOnes]

/-- Every `idx` that a row admits is the `idx` of a command of the row. -/
theorem exists_command_of_row (i : Instr) {x : Idx} (h : x &&& idxMask (opcodeOf i) = 0) :
    ∃ j, opcodeOf j = opcodeOf i ∧ idxOf j = x := by
  cases i
  case pidInit => exact ⟨.pidInit x, rfl, rfl⟩
  case pidUpd => exact ⟨.pidUpd x, rfl, rfl⟩
  case escSafe => exact ⟨.escSafe x, rfl, rfl⟩
  case escSetw => exact ⟨.escSetw x, rfl, rfl⟩
  case escSetx => exact ⟨.escSetx x, rfl, rfl⟩
  all_goals
    have hx : x = 0 := BitVec.and_allOnes.symm.trans h
    exact ⟨_, rfl, hx.symm⟩

/-- Settles O3: a word matches a row exactly when it is the word of a well-formed command of that row, and the row is
the word's opcode. -/
theorem tableRowSelectsTheCommand : Obligations.TableRowSelectsTheCommand := by
  refine ⟨fun w i => ?_, fun w i j hi hj => ?_⟩
  · simp only [and_maskOf_eq_matchOf_iff, decode_eq_ok_iff, wellFormed_iff_and_idxMask, encode_eq_iff,
      matchOf_eq_matchOf_iff]
    constructor
    · rintro ⟨hz, hx, ho⟩
      obtain ⟨j, hjo, hjx⟩ := exists_command_of_row i hx
      exact ⟨j, ⟨by rwa [hjx, hjo], hz, hjx.symm, ho.trans hjo.symm⟩, hjo⟩
    · rintro ⟨j, ⟨hwf, hz, hx, ho⟩, hji⟩
      exact ⟨hz, by rwa [hx, ← hji], ho.trans hji⟩
  · obtain ⟨-, -, hoi⟩ := (and_maskOf_eq_matchOf_iff w i).1 hi
    obtain ⟨-, -, hoj⟩ := (and_maskOf_eq_matchOf_iff w j).1 hj
    have hop : opcodeOf i = opcodeOf j := hoi.symm.trans hoj
    exact ⟨(matchOf_eq_matchOf_iff i j).2 hop, by rw [maskOf_eq, maskOf_eq, hop]⟩

end Sys2Proof.Proofs
end

section
/-! The scaled arithmetic (40_scaled_arith.md): SMULDIV follows the pseudocode of its rule (R112). -/

namespace Sys2Proof.Proofs

open Sys2Proof.Machine Sys2Proof.Laws

/-- The saturated rounding division with its rule for a zero divisor, on numerals (R11, R111, R112). -/
theorem scaledMulDiv_eq (v n d : Int) : scaledMulDiv v n d =
    if d = 0 then (if v * n > 0 then 2147483647 else if v * n < 0 then -2147483648 else 0)
    else max (-2147483648) (min 2147483647 ((v * n + d.tdiv 2).tdiv d)) := by
  rw [← sat32_eq]
  rfl

/-- SMULDIV writes RESULT and nothing else (R112). -/
theorem exec_smuldiv (s : State) :
    exec .smuldiv s = .next (writeResult s (scaledMulDiv (argInt s 0) (argInt s 1) (argInt s 2))) := rfl

/-- Settles O25: the one write of SMULDIV, with the division in the form of `scaledMulDiv_eq`. -/
theorem smuldivFollowsItsRule : Obligations.SmuldivFollowsItsRule := by
  refine ⟨rfl, fun s => ?_⟩
  rw [exec_smuldiv, scaledMulDiv_eq]
  rfl

end Sys2Proof.Proofs
end

section
/-! The trigonometric commands (41_trig.md): ATAN2 and ASIN follow the pseudocode of their rules (R131, R135). -/

namespace Sys2Proof.Proofs

open Sys2Proof.Machine

/-! ### The shared index -/

/-- A magnitude ratio of R131 and R135, on numerals (R111). -/
theorem rdiv_scaled_eq (a b : Int) : rdiv (a * Config.mult) b = (a * 1000 + b.tdiv 2).tdiv b := rfl

/-! ### ATAN2 -/

/-- The table index of ATAN2, with the magnitudes compared as integers (R131). -/
theorem atan2Ratio_eq (y x : Int) : atan2Ratio y x =
    if x = y then 1000
    else if (x.natAbs : Int) < y.natAbs then (x.natAbs * 1000 + (y.natAbs : Int).tdiv 2).tdiv y.natAbs
    else (y.natAbs * 1000 + (x.natAbs : Int).tdiv 2).tdiv x.natAbs := by
  simp only [atan2Ratio, rdiv_scaled_eq, Int.ofNat_lt]
  rfl

/-- The first-quadrant angle of ATAN2, with the magnitudes compared as integers (R131). -/
theorem atan2Octant_eq (b : Config.Build) (y x : Int) : atan2Octant b y x =
    if (x.natAbs : Int) < y.natAbs then 90000 - (atanRom b (atan2Ratio y x).toNat : Int)
    else atanRom b (atan2Ratio y x).toNat := by
  simp only [atan2Octant, Int.ofNat_lt]
  rfl

/-- The four quadrants of ATAN2, on numerals (R131). -/
theorem atan2Angle_eq (b : Config.Build) (y x : Int) : atan2Angle b y x =
    if x = 0 ∧ y = 0 then 0
    else if 0 ≤ x then (if 0 ≤ y then atan2Octant b y x else -atan2Octant b y x)
    else (if 0 ≤ y then 180000 - atan2Octant b y x else atan2Octant b y x - 180000) := rfl

/-- ATAN2 writes RESULT and nothing else (R131). -/
theorem exec_atan2 (s : State) :
    exec .atan2 s = .next (writeResult s (atan2Angle s.build (argInt s 0) (argInt s 1))) := rfl

/-- Settles O29: the one write of ATAN2, with the quadrant, the octant and the index each in the form of its lemma. -/
theorem atan2FollowsItsRule : Obligations.Atan2FollowsItsRule := by
  refine ⟨rfl, fun s => ?_⟩
  rw [exec_atan2, atan2Angle_eq, atan2Octant_eq, atan2Ratio_eq]
  rfl

/-! ### ASIN -/

/-- The table index of ASIN, on numerals (R135). -/
theorem asinRatio_eq (o h : Int) : asinRatio o h =
    if h = 0 then 1000 else min ((o.natAbs * 1000 + (h.natAbs : Int).tdiv 2).tdiv h.natAbs) 1000 := by
  rw [asinRatio, rdiv_scaled_eq]
  rfl

/-- ASIN writes RESULT and nothing else (R135). -/
theorem exec_asin (s : State) :
    exec .asin s = .next (writeResult s (asinAngle s.build (argInt s 0) (argInt s 1))) := rfl

/-- Settles O32: the one write of ASIN, with the sign times the entry at the index of `asinRatio_eq`. -/
theorem asinFollowsItsRule : Obligations.AsinFollowsItsRule := by
  refine ⟨rfl, fun s => ?_⟩
  rw [exec_asin, asinAngle, asinSign, asinRatio_eq]
  rfl

end Sys2Proof.Proofs
end

section
/-! The PID commands (43_pid.md): PID.INIT and PID.UPD follow the pseudocode of their rules (R161, R162). -/

namespace Sys2Proof.Proofs

open Sys2Proof.Machine Sys2Proof.Laws

/-! ### The command word -/

/-- A word of format C is `opcode + 256 x idx`: its fields do not overlap (R90, R98). -/
theorem formatC_eq_add (op : BitVec 8) (x : Idx) :
    formatC op x = op.setWidth 32 + BitVec.ofNat 32 (256 * x.toNat) := by
  apply BitVec.eq_of_toNat_eq
  rw [formatC, BitVec.toNat_append, BitVec.toNat_append, ← Nat.shiftLeft_add_eq_or_of_lt x.isLt,
    ← Nat.shiftLeft_add_eq_or_of_lt op.isLt]
  simp only [BitVec.toNat_ofNat, Nat.shiftLeft_eq, BitVec.toNat_add, BitVec.toNat_setWidth]
  omega

/-- The command word of any command (R98). -/
theorem encode_eq_add (i : Instr) :
    encode i = (opcodeOf i).setWidth 32 + BitVec.ofNat 32 (256 * (idxOf i).toNat) := formatC_eq_add _ _

/-! ### PID.INIT -/

/-- PID.INIT with a legal `idx` writes its context and nothing else (R161). -/
theorem exec_pidInit_of_lt {c : Idx} (h : c.toNat < 4) (s : State) :
    exec (.pidInit c) s = .next (writeContext s ⟨c.toNat, h⟩ 0 0) := by
  simp only [exec, execPidInit, contextOf_lt c h]

/-- PID.INIT with an `idx` that names no context changes nothing (R91, R161). -/
theorem exec_pidInit_of_ge {c : Idx} (h : 4 ≤ c.toNat) (s : State) : exec (.pidInit c) s = .next s := by
  simp only [exec, execPidInit, contextOf_ge c h]

/-- Settles O34: the one write of PID.INIT with a legal `idx`, whose two words are 0. -/
theorem pidInitZeroesItsContext : Obligations.PidInitZeroesItsContext :=
  ⟨fun _ _ => encode_eq_add _, fun _ s => ⟨fun h => exec_pidInit_of_lt h s, fun h => exec_pidInit_of_ge h s⟩⟩

/-! ### PID.UPD -/

/-- The integral of R166, on numerals. -/
theorem pidIntegral_eq (es err : Int) : pidIntegral es err = max (-1000000) (min 1000000 (es + err)) := by
  simp only [pidIntegral, clamp, Config.errSumLimit]
  omega

/-- The output of R162: half of the scale is 500, and the scale is not 0. -/
theorem pidOutput_eq (sum : Int) :
    pidOutput sum = max (-2147483648) (min 2147483647 ((sum + 500).tdiv 1000)) := by
  rw [pidOutput, scaledMulDiv_eq, if_neg (by decide), Int.mul_one]
  rfl

/-- PID.UPD with a legal `idx` updates its context (R162). -/
theorem exec_pidUpd_of_lt {c : Idx} (h : c.toNat < 4) (s : State) :
    exec (.pidUpd c) s = .next (pidUpdate ⟨c.toNat, h⟩ s) := by
  simp only [exec, execPidUpd, contextOf_lt c h]

/-- PID.UPD with an `idx` that names no context changes nothing (R91, R170). -/
theorem exec_pidUpd_of_ge {c : Idx} (h : 4 ≤ c.toNat) (s : State) : exec (.pidUpd c) s = .next s := by
  simp only [exec, execPidUpd, contextOf_ge c h]

/-- Settles O35: the writes of PID.UPD with a legal `idx`, with the output, the integral and the error each in the form
of its lemma. -/
theorem pidUpdateFollowsItsRule : Obligations.PidUpdateFollowsItsRule := by
  refine ⟨fun c _ => encode_eq_add (.pidUpd c), fun c s => ⟨fun h => ?_, fun h => exec_pidUpd_of_ge h s⟩⟩
  rw [exec_pidUpd_of_lt h]
  simp only [pidUpdate, pidOutput_eq, pidIntegral_eq, pidError, sat32_eq]
  rfl

end Sys2Proof.Proofs
end

section
/-! The ESC commands (44_esc.md): START, SAFE, SETW, TOTAL, SETX, ISDONE and CLRDONE follow their rules (R181 to R190). -/

namespace Sys2Proof.Proofs

open Sys2Proof.Machine Sys2Proof.Safety Sys2Proof.Laws

/-! ### ESC.TOTAL -/

/-- The width bank, channel by channel (R30). -/
theorem width_toList (s : State) : s.width.toList = [s.width[0], s.width[1], s.width[2], s.width[3], s.width[4],
    s.width[5], s.width[6], s.width[7]] := by
  conv_lhs => rw [← Vector.ofFn_getElem (xs := s.width), Vector.toList_ofFn]
  simp [List.ofFn_succ]

/-- The active widths are the four primary ones and one more for each extra channel (R33, R187). -/
theorem totalWidth_eq (s : State) : totalWidth s =
    (s.width[0]).toNat + (s.width[1]).toNat + (s.width[2]).toNat + (s.width[3]).toNat +
      (if 1 ≤ s.extra.toNat then (s.width[4]).toNat else 0) + (if 2 ≤ s.extra.toNat then (s.width[5]).toNat else 0) +
      (if 3 ≤ s.extra.toNat then (s.width[6]).toNat else 0) +
      (if 4 ≤ s.extra.toNat then (s.width[7]).toNat else 0) := by
  simp only [totalWidth, activeChannels, width_toList]
  generalize s.extra.toNat = n
  match n with
  | 0 | 1 | 2 | 3 => simp [Nat.add_assoc]
  | n + 4 =>
    have hall : Config.nPrimary + (n + 4) = n + 8 := Nat.add_left_comm ..
    simp [hall, Nat.add_assoc]

/-- The widths ESC.TOTAL adds up, at least four and at most eight of them (R33, R187). -/
def activeWidths (s : State) : List Nat := (s.width.toList.take (activeChannels s)).map BitVec.toNat

theorem activeWidths_sum (s : State) : (activeWidths s).sum = totalWidth s := rfl

theorem activeWidths_length (s : State) : 4 ≤ (activeWidths s).length ∧ (activeWidths s).length ≤ 8 := by
  simp [activeWidths, activeChannels]

/-- R44 item 1, for the active channels. -/
theorem mem_activeWidths {s : State} (h : WidthsInRange s) {n : Nat} (hn : n ∈ activeWidths s) :
    2 * s.build.baseTick ≤ n ∧ n ≤ 4 * s.build.baseTick := by
  obtain ⟨w, hw, rfl⟩ := List.mem_map.1 hn
  obtain ⟨i, hi, rfl⟩ := Vector.getElem_of_mem (Vector.mem_toList_iff.1 (List.mem_of_mem_take hw))
  exact h ⟨i, hi⟩

/-- Four widths at the lower bound, or eight at the upper one (R187). -/
theorem totalWidth_bounds {s : State} (h : WidthsInRange s) :
    8 * s.build.baseTick ≤ totalWidth s ∧ totalWidth s ≤ 32 * s.build.baseTick := by
  obtain ⟨hfour, height⟩ := activeWidths_length s
  rw [← activeWidths_sum]
  constructor
  · calc 8 * s.build.baseTick = 4 * (2 * s.build.baseTick) := by omega
      _ ≤ (activeWidths s).length * (2 * s.build.baseTick) := Nat.mul_le_mul_right _ hfour
      _ ≤ (activeWidths s).sum := List.card_nsmul_le_sum _ _ fun _ hn => (mem_activeWidths h hn).1
  · calc (activeWidths s).sum ≤ (activeWidths s).length * (4 * s.build.baseTick) :=
          List.sum_le_card_nsmul _ _ fun _ hn => (mem_activeWidths h hn).2
      _ ≤ 8 * (4 * s.build.baseTick) := Nat.mul_le_mul_right _ height
      _ = 32 * s.build.baseTick := by omega

/-- ESC.TOTAL writes RESULT and nothing else (R187). -/
theorem exec_escTotal (s : State) : exec .escTotal s = .next (writeResult s (totalWidth s)) := rfl

/-- Settles O44: the sum is at most 32 times the largest legal BASE_TICK, 2^29, so RESULT holds it exactly. -/
theorem escTotalSumsTheActiveWidths : Obligations.EscTotalSumsTheActiveWidths := by
  refine ⟨rfl, fun s hs => ⟨signedWord (totalWidth s), exec_escTotal s, ?_⟩⟩
  obtain ⟨hlo, hhi⟩ := totalWidth_bounds hs.widths
  obtain ⟨-, htick⟩ := hs.build.baseTick
  rw [signedWord_toInt (by omega) (by omega)]
  refine ⟨?_, by omega, by omega⟩
  rw [totalWidth_eq]
  push_cast
  rfl

/-! ### ESC.SETW -/

/-- A register gives back a non-negative value of its range (R10). -/
theorem signedWord_toNat {v : Int} (h : 0 ≤ v) (h' : v < 4294967296) : ((signedWord v).toNat : Int) = v := by
  rw [signedWord, BitVec.toNat_ofInt]
  omega

/-- The clamp of R186, on its two bounds. -/
theorem clampWidth_eq (b : Config.Build) (ticks : Int) :
    clampWidth b ticks = min (max ticks (2 * b.baseTick)) (4 * b.baseTick) := rfl

/-- A clamped width lies between the bounds of R44 item 1 (R186). -/
theorem clampWidth_bounds (b : Config.Build) (ticks : Int) :
    2 * (b.baseTick : Int) ≤ clampWidth b ticks ∧ clampWidth b ticks ≤ 4 * b.baseTick := by
  rw [clampWidth_eq]
  omega

/-- ESC.SETW writes the width of its channel and nothing else (R186). -/
theorem exec_escSetw (ch : Idx) (s : State) :
    exec (.escSetw ch) s = .next (writeWidth s (channelOf ch) (clampWidth s.build (argInt s 0))) := rfl

/-- Settles O43: the one write of ESC.SETW; four times a legal BASE_TICK fits the width register, so the clamp is
stored as it is. -/
theorem escSetwStoresTheClampedWidth : Obligations.EscSetwStoresTheClampedWidth := by
  refine ⟨fun _ => encode_eq_add _, fun ch s hb => ⟨_, exec_escSetw ch s, ?_⟩⟩
  obtain ⟨hlo, hhi⟩ := clampWidth_bounds s.build (argInt s 0)
  obtain ⟨-, htick⟩ := hb.baseTick
  rw [signedWord_toNat (by omega) (by omega)]
  exact clampWidth_eq s.build (argInt s 0)

/-! ### ESC.START -/

/-- ESC.START begins a frame and does nothing else (R181). -/
theorem exec_escStart (s : State) : exec .escStart s = .next (startFrame s) := rfl

/-- The sum of two words is the sum of their values mod 2^32 (R10). -/
theorem word_add_ofNat (t : Word) (n : Nat) : t + BitVec.ofNat 32 n = BitVec.ofNat 32 ((t.toNat + n) % 2 ^ 32) := by
  apply BitVec.eq_of_toNat_eq
  simp

/-- Settles O39: the assignments of `startFrame`, with the compare register as a sum mod 2^32. -/
theorem escStartBeginsAFrame : Obligations.EscStartBeginsAFrame := by
  refine ⟨rfl, fun s => ?_⟩
  rw [exec_escStart, startFrame, word_add_ofNat]

/-! ### ESC.SAFE -/

/-- ESC.SAFE with a legal `idx` writes the armed flag, and the reset line with it (R184). -/
theorem exec_escSafe_of_armedOf {a : Idx} {b : Bool} (h : armedOf a = some b) (s : State) :
    exec (.escSafe a) s = .next (setSafety b s) := by
  simp only [exec, execEscSafe, h]

/-- ESC.SAFE with an `idx` that encodes no flag changes nothing (R185). -/
theorem exec_escSafe_of_ge {a : Idx} (h : 2 ≤ a.toNat) (s : State) : exec (.escSafe a) s = .next s := by
  simp only [exec, execEscSafe, armedOf_ge a h]

/-- Settles O41: the two encodings are the two values of the flag, and no other `idx` is one. -/
theorem escSafeArmsAndDisarms : Obligations.EscSafeArmsAndDisarms :=
  ⟨rfl, rfl, fun s => ⟨exec_escSafe_of_armedOf rfl s, exec_escSafe_of_armedOf rfl s, fun _ h => exec_escSafe_of_ge h s⟩⟩

/-! ### ESC.SETX -/

/-- ESC.SETX writes the extra-channel count and nothing else (R188). -/
theorem exec_escSetx (n : Idx) (s : State) : exec (.escSetx n) s = .next { s with extra := extraOf n } := rfl

/-- Settles O45: the one write of ESC.SETX, whose value is `extraOf_toNat`. -/
theorem escSetxClampsTheCount : Obligations.EscSetxClampsTheCount :=
  ⟨fun _ => encode_eq_add _, fun n s => ⟨extraOf n, exec_escSetx n s, extraOf_toNat n⟩⟩

/-! ### ESC.ISDONE and ESC.CLRDONE -/

/-- ESC.ISDONE writes RESULT and nothing else (R189). -/
theorem exec_escIsdone (s : State) : exec .escIsdone s = .next (writeResult s s.doneFlag.toNat) := rfl

/-- A flag as a word (R189). -/
theorem signedWord_boolToNat (b : Bool) : signedWord b.toNat = if b then 1 else 0 := by
  cases b <;> rfl

/-- Settles O46: the one write of ESC.ISDONE, with the flag as a word. -/
theorem escIsdoneAnswersTheFlag : Obligations.EscIsdoneAnswersTheFlag := by
  refine ⟨rfl, fun s => ?_⟩
  rw [exec_escIsdone, writeResult, signedWord_boolToNat]

/-- ESC.CLRDONE writes the flag and nothing else (R190). -/
theorem exec_escClrdone (s : State) : exec .escClrdone s = .next { s with doneFlag := false } := rfl

/-- Settles O47: the one write of ESC.CLRDONE. -/
theorem escClrdoneClearsOnlyTheFlag : Obligations.EscClrdoneClearsOnlyTheFlag :=
  ⟨rfl, exec_escClrdone⟩

end Sys2Proof.Proofs
end

section
/-! The TICK step (60_exceptions.md): its order (R220), the reset-sequence engine (R227 to R231) and the compare-match
transition (R223). -/

namespace Sys2Proof.Proofs

open Sys2Proof.Machine Sys2Proof.Safety Sys2Proof.Laws

/-! ### The order of a TICK step -/

/-- The compare match, with its condition written out (R220, R221). -/
theorem matchStep_eq (s : State) :
    matchStep s = if s.seqRun = true ∧ s.timer = s.compare then compareMatch s else .next s := by
  simp [matchStep, compareDue]

/-- An idle engine does nothing, so only the timer counts (R227). -/
theorem ticked_of_idle {s : State} (h : s.seqPhase = .idle) : ticked s = timerStep s := if_pos h

/-- Settles O48: the ticked state is parts (1) and (2) by definition, and `matchStep_eq` is part (3); without a match
and with the engine idle only (1) is left. -/
theorem tickRunsTimerEngineMatchInOrder : Obligations.TickRunsTimerEngineMatchInOrder := by
  refine fun s => ⟨matchStep_eq (ticked s), fun hi hm => ?_⟩
  rw [tickStep_quiet hm, ticked_of_idle hi, timerStep]

/-! ### The reset-sequence engine -/

/-- Above 1 a busy engine only counts (R227). -/
theorem ticked_of_counting {s : State} (h : s.seqPhase ≠ .idle) (hw : 1 < s.seqWait) :
    ticked s = countDown (timerStep s) :=
  (if_neg h).trans (if_neg (by simp only [countDown_seqWait, timerStep_seqWait]; omega))

/-- At 1 the count of a busy engine reaches 0 and the action of the phase is done (R227). -/
theorem ticked_of_expiring {s : State} (h : s.seqPhase ≠ .idle) (hw : s.seqWait = 1) :
    ticked s = phaseAction { s with timer := s.timer + 1, seqWait := 0 } := by
  have hcount : countDown (timerStep s) = { s with timer := s.timer + 1, seqWait := 0 } := by
    rw [countDown, timerStep_seqWait, hw, timerStep]
  rw [← hcount]
  exact (if_neg h).trans (if_pos (by rw [hcount]))

/-- SETTLE: the reset line rises only if armed, and the data line rises (R228). -/
theorem phaseAction_of_settle {s : State} (h : s.seqPhase = .settle) :
    phaseAction s = { s with srRst := if s.safetyArmed then true else s.srRst, srData := true, seqPhase := .pad1,
                             seqWait := s.build.tPad } := by
  rw [phaseAction, h]

/-- PAD1: the clock edge that pre-loads the first output bit (R229). -/
theorem phaseAction_of_pad1 {s : State} (h : s.seqPhase = .pad1) :
    phaseAction s = { s with srClk := true, seqPhase := .pad2, seqWait := s.build.tPad } := by
  rw [phaseAction, h]

/-- PAD2: the clock falls again (R230). -/
theorem phaseAction_of_pad2 {s : State} (h : s.seqPhase = .pad2) :
    phaseAction s = { s with srClk := false, seqPhase := .pad3, seqWait := s.build.tPad } := by
  rw [phaseAction, h]

/-- PAD3: the data line falls and the engine is idle; its count is left at 0 by the countdown (R231). -/
theorem phaseAction_of_pad3 {s : State} (h : s.seqPhase = .pad3) :
    phaseAction s = { s with srData := false, seqPhase := .idle } := by
  rw [phaseAction, h]

/-- The engine and a match never act in one step: the first match comes after the engine's last action (R232). -/
theorem seqPhase_idle_of_match {s : State} (hs : Inv s) (hc : s.timer + 1 = s.compare) : s.seqPhase = .idle := by
  by_contra hi
  have hbusy : busy s = true := decide_eq_true hi
  obtain ⟨-, hahead⟩ := hs.engineFirst hbusy
  obtain ⟨-, -, -, hleft, -⟩ := engineStep_keeps hs.build hs.pins hs.interlock
  have hone : ticksToMatch s = 1 := (timer_succ_eq_iff _ _).1 hc
  have hbusyLeft := hleft hbusy
  omega

/-- While the engine is busy a TICK step is the timer and the engine (R220, R232). -/
theorem tickStep_of_busy {s : State} (hs : Inv s) (h : s.seqPhase ≠ .idle) : tickStep s = .next (ticked s) :=
  tickStep_quiet fun ⟨_, hc⟩ => h (seqPhase_idle_of_match hs hc)

/-- While the engine is busy, the TICK step in which its count ends does the action of the phase (R227, R232). -/
theorem tickStep_of_expiring {s : State} (hs : Inv s) (h : s.seqPhase ≠ .idle) (hw : s.seqWait = 1) :
    tickStep s = .next (phaseAction { s with timer := s.timer + 1, seqWait := 0 }) := by
  rw [tickStep_of_busy hs h, ticked_of_expiring h hw]

/-- Settles O51: no match falls while the engine is busy, so the step is the engine's count, or the action of the phase
when the count ends. -/
theorem engineRunsTheResetSequence : Obligations.EngineRunsTheResetSequence := by
  refine fun s hs hb => ⟨fun hw => ?_, fun hw hp => ?_, fun hw hp => ?_, fun hw hp => ?_, fun hw hp => ?_⟩
  · rw [tickStep_of_busy hs hb, ticked_of_counting hb hw, countDown, timerStep]
  · exact (tickStep_of_expiring hs hb hw).trans (congrArg _ (phaseAction_of_settle hp))
  · exact (tickStep_of_expiring hs hb hw).trans (congrArg _ (phaseAction_of_pad1 hp))
  · exact (tickStep_of_expiring hs hb hw).trans (congrArg _ (phaseAction_of_pad2 hp))
  · exact (tickStep_of_expiring hs hb hw).trans (congrArg _ (phaseAction_of_pad3 hp))

/-! ### The compare-match transition -/

/-- Below the active count the index advances (R223). -/
theorem transition_of_not_due {s : State} {w : Word} (h : ¬ activeChannels s ≤ (s.channelIndex + 1).toNat) :
    transition s w = advanceChannel s w := if_neg h

/-- At the active count and past the frame budget the frame ends (R223, R224). -/
theorem transition_of_exceeded {s : State} {w : Word} (h : activeChannels s ≤ (s.channelIndex + 1).toNat)
    (hx : s.build.frameTicks < (s.elapsed + w).toNat) :
    transition s w = { advanceChannel s w with doneFlag := true, seqRun := false } :=
  (if_pos h).trans (if_pos hx)

/-- At the active count and within the frame budget the channel repeats (R223). -/
theorem transition_of_within {s : State} {w : Word} (h : activeChannels s ≤ (s.channelIndex + 1).toNat)
    (hx : ¬ s.build.frameTicks < (s.elapsed + w).toNat) :
    transition s w = { advanceChannel s w with channelIndex := s.channelIndex } := by
  have hback : (advanceChannel s w).channelIndex - 1 = s.channelIndex := BitVec.add_sub_cancel ..
  rw [← hback]
  exact (if_pos h).trans (if_neg hx)

/-- What a transition writes (R223). -/
theorem transition_frame (s : State) (w : Word) : transition s w = { s with
    escOut := !s.escOut, compare := s.compare + w, elapsed := s.elapsed + w,
    channelIndex := (transition s w).channelIndex, doneFlag := (transition s w).doneFlag,
    seqRun := (transition s w).seqRun } := by
  rcases transition_cases s w with ⟨-, h⟩ | ⟨-, -, h⟩ | ⟨-, -, h⟩ <;> rw [h, advanceChannel]

/-- While a frame runs the incremented index fits its four bits (R225). -/
theorem channelIndex_succ_toNat {s : State} (hs : Inv s) (hr : s.seqRun = true) :
    (s.channelIndex + 1).toNat = s.channelIndex.toNat + 1 := by
  have hlegal := hs.indexRun hr
  have hone : (1 : BitVec 4).toNat = 1 := rfl
  rw [BitVec.toNat_add_of_lt (by omega), hone]

/-- While a frame runs `elapsed` does not wrap: it ends at most at 2^31 + 8 * 2^26 (R32). -/
theorem elapsed_add_toNat {s : State} (hs : Inv s) (hr : s.seqRun = true) {w : Word}
    (hw : w.toNat ≤ 4 * s.build.baseTick) : (s.elapsed + w).toNat = s.elapsed.toNat + w.toNat := by
  obtain ⟨-, htick⟩ := hs.build.baseTick
  obtain ⟨-, hbudget⟩ := hs.build.frameTicks
  have helapsed := hs.elapsedBound hr
  have htimed : s.channelIndex.toNat * (4 * s.build.baseTick) ≤ 7 * (4 * 2 ^ 24) :=
    Nat.mul_le_mul (hs.indexRun hr) (by omega)
  exact BitVec.toNat_add_of_lt (by omega)

/-- From the invariant a due match is the transition alone, after the timer (R220, R223, R232). -/
theorem tickStep_of_match {s : State} {w : Word} (hs : Inv s) (hr : s.seqRun = true) (hc : s.timer + 1 = s.compare)
    (hw : s.width[s.channelIndex.toNat]? = some w) : tickStep s = .next (transition (timerStep s) w) := by
  obtain ⟨hi, rfl⟩ := Vector.getElem?_eq_some_iff.1 hw
  rw [tickStep_match hr hc hi, ticked_of_idle (seqPhase_idle_of_match hs hc)]

/-- A width read from the bank is at most its upper bound (R44 item 1). -/
theorem width_le_of_getElem? {s : State} {w : Word} {i : Nat} (hs : WidthsInRange s) (hw : s.width[i]? = some w) :
    w.toNat ≤ 4 * s.build.baseTick := by
  obtain ⟨hi, rfl⟩ := Vector.getElem?_eq_some_iff.1 hw
  exact (hs ⟨i, hi⟩).2

/-- Settles O52: from the invariant neither the index nor `elapsed` wraps, so the two tests of the statement, on
natural numbers, are those of the transition. -/
theorem compareMatchAdvancesRepeatsOrStops : Obligations.CompareMatchAdvancesRepeatsOrStops := by
  intro s w hs hr hc hw
  have hindex := channelIndex_succ_toNat hs hr
  have htotal := elapsed_add_toNat hs hr (width_le_of_getElem? hs.widths hw)
  have hdone := hs.runNotDone hr
  have hdue : activeChannels (timerStep s) ≤ ((timerStep s).channelIndex + 1).toNat ↔
      4 + s.extra.toNat ≤ s.channelIndex.toNat + 1 := by
    rw [← hindex]
    rfl
  have hover : (timerStep s).build.frameTicks < ((timerStep s).elapsed + w).toNat ↔
      s.build.frameTicks < s.elapsed.toNat + w.toNat := by
    rw [← htotal]
    rfl
  refine ⟨_, tickStep_of_match hs hr hc hw, transition_frame (timerStep s) w, ?_, fun hd => ?_, fun ⟨hd, hx⟩ => ?_,
    fun ⟨hd, hx⟩ => ?_⟩
  · rw [transition_elapsed, timerStep_elapsed, htotal]
  · rw [transition_of_not_due (mt hdue.1 hd)]
    exact ⟨hindex, hdone, hr⟩
  · rw [transition_of_exceeded (hdue.2 hd) (hover.2 hx)]
    exact ⟨hindex, rfl, rfl⟩
  · rw [transition_of_within (hdue.2 hd) (mt hover.1 hx)]
    exact ⟨rfl, hdone, hr⟩

end Sys2Proof.Proofs
end

section
/-! Command words (30_encoding.md): decode and encode are inverse to each other (R90 to R93), and the words that match
no row of the map are the reserved ones of R95. -/

namespace Sys2Proof.Proofs

open Sys2Proof.Machine Sys2Proof.Safety Sys2Proof.Laws

/-! ### Decode and encode -/

/-- Settles O1: the word of a well-formed command is one of the words that `decode_eq_ok_iff` decodes. -/
theorem decodeOfEncodeIsTheCommand : Obligations.DecodeOfEncodeIsTheCommand :=
  fun _ hi => decode_eq_ok_iff.2 ⟨hi, rfl⟩

/-- Settles O2: the other direction of `decode_eq_ok_iff`. -/
theorem decodedWordIsItsEncoding : Obligations.DecodedWordIsItsEncoding :=
  fun _ _ h => decode_eq_ok_iff.1 h

/-- Settles O4: each word has the fields of its row of the map, so the decoder evaluates on it. -/
theorem sampleWordsDecode : Obligations.SampleWordsDecode := by
  refine ⟨?_, ?_, ?_, ?_, ?_, ?_, ?_, ?_, ?_, ?_, ?_, ?_, ?_⟩ <;> rfl

/-! ### Reserved words -/

/-- The legal encodings of `idx` are those with no bit that the row fixes to 0 (R91, R93). -/
theorem idxLegal_iff_and_idxMask (op : BitVec 8) (x : Idx) : idxLegal op x ↔ x &&& idxMask op = 0 := by
  unfold idxLegal idxMask
  split_ifs <;> revert x <;> decide

/-- The defined opcodes are the opcodes of the commands (R93). -/
theorem mem_definedOpcodes_iff (op : BitVec 8) : op ∈ definedOpcodes ↔ ∃ i, opcodeOf i = op := by
  constructor
  · intro h
    simp only [definedOpcodes, List.mem_cons, List.not_mem_nil, or_false] at h
    rcases h with rfl | rfl | rfl | rfl | rfl | rfl | rfl | rfl | rfl | rfl | rfl | rfl | rfl
    exacts [⟨.nop, rfl⟩, ⟨.smuldiv, rfl⟩, ⟨.atan2, rfl⟩, ⟨.asin, rfl⟩, ⟨.pidInit 0, rfl⟩, ⟨.pidUpd 0, rfl⟩,
      ⟨.escStart, rfl⟩, ⟨.escSafe 0, rfl⟩, ⟨.escSetw 0, rfl⟩, ⟨.escTotal, rfl⟩, ⟨.escSetx 0, rfl⟩, ⟨.escIsdone, rfl⟩,
      ⟨.escClrdone, rfl⟩]
  · rintro ⟨i, rfl⟩
    cases i <;> simp [opcodeOf, definedOpcodes]

/-- A defined opcode and a legal `idx` are those of a well-formed command (R91, R93, R94). -/
theorem exists_command_iff (op : BitVec 8) (x : Idx) :
    (∃ i : Instr, i.wellFormed = true ∧ idxOf i = x ∧ opcodeOf i = op) ↔ op ∈ definedOpcodes ∧ idxLegal op x := by
  rw [mem_definedOpcodes_iff, idxLegal_iff_and_idxMask]
  constructor
  · rintro ⟨i, hi, rfl, rfl⟩
    exact ⟨⟨i, rfl⟩, (wellFormed_iff_and_idxMask i).1 hi⟩
  · rintro ⟨⟨i, rfl⟩, hx⟩
    obtain ⟨j, hjo, rfl⟩ := exists_command_of_row i hx
    exact ⟨j, (wellFormed_iff_and_idxMask j).2 (by rwa [hjo]), rfl, hjo⟩

/-- The reserved words are the words that decode to no command (R95). -/
theorem reservedWord_iff (w : Word) : ReservedWord w ↔ ∀ i, decode w ≠ .ok i := by
  have hcommand : (∃ i, decode w = .ok i) ↔
      zeroField w = 0 ∧ opcodeField w ∈ definedOpcodes ∧ idxLegal (opcodeField w) (idxField w) := by
    simp only [decode_eq_ok_iff, encode_eq_iff, ← exists_command_iff, ← exists_and_left, eq_comm (b := idxField w),
      eq_comm (b := opcodeField w), and_left_comm]
  rw [← not_exists, hcommand, ReservedWord]
  tauto

/-- A word matches no row exactly when it decodes to no command (R93, R95). -/
theorem no_row_iff (w : Word) : (∀ i, w &&& maskOf i ≠ matchOf i) ↔ ∀ i, decode w ≠ .ok i := by
  simp only [ne_eq, tableRowSelectsTheCommand.1, not_exists, not_and]
  exact ⟨fun h i hi => h i i hi rfl, fun h i j hj _ => h j hj⟩

/-! ### Writes to CMD -/

/-- A word that decodes to a command runs it (R63). -/
theorem commandWrite_of_ok {w : Word} {i : Instr} (h : decode w = .ok i) (s : State) :
    commandWrite w s = exec i s := by
  simp only [commandWrite, h]

/-- A reserved word has no effect (R95). -/
theorem commandWrite_of_reserved {w : Word} (h : ReservedWord w) (s : State) : commandWrite w s = .next s := by
  cases hd : decode w with
  | ok i => exact absurd hd ((reservedWord_iff w).1 h i)
  | error r => simp only [commandWrite, hd]

/-- A TICK step leaves the inputs as they are. -/
theorem tickStep_inbox {s t : State} (h : tickStep s = .next t) : t.inbox = s.inbox := by
  rcases tickStep_cases h with ⟨-, rfl⟩ | ⟨-, -, -, rfl⟩ <;> simp

/-- While busy a write to CMD is held, and the step is a TICK (R69). -/
theorem step_of_held {s : State} {w : Word} {rest : List Input} (h : s.inbox = .write cmdAddr w :: rest)
    (hs : s.seqPhase ≠ .idle) : step s = tickStep s := by
  simp [step, advance, h, ready, busy, hs]

/-- Settles O5: the reserved words are those that decode to nothing, which is what matching no row says; such a write
is the error case of the decoder, and a held one is a TICK. -/
theorem reservedWordHasNoEffect : Obligations.ReservedWordHasNoEffect := by
  refine ⟨fun w => (reservedWord_iff w).trans (no_row_iff w).symm, fun s w rest hw h => ⟨fun hi => ?_, ?_⟩⟩
  · rw [step_write_cmd h hi, commandWrite_of_reserved hw]
  · intro hb t ht
    rw [step_of_held h hb] at ht
    exact tickStep_inbox ht

/-- Settles O6: the word of NOP decodes to NOP, whose meaning is the state itself, and a held one is a TICK. -/
theorem nopChangesNothing : Obligations.NopChangesNothing := by
  refine ⟨rfl, fun _ => rfl, fun s rest h => ⟨fun hi => ?_, fun hb t ht => ?_⟩⟩
  · rw [step_write_cmd h hi, commandWrite_of_ok sampleWordsDecode.1]
    rfl
  · rw [step_of_held h hb] at ht
    exact tickStep_inbox ht

/-- Settles O7: a write to CMD that is not held runs its word; the placed state has such a write in front. -/
theorem commandWriteRunsTheDecodedCommand : Obligations.CommandWriteRunsTheDecodedCommand := by
  refine ⟨fun s w i rest h hi hd => ?_, fun s w i hd => ?_⟩
  · rw [step_write_cmd h hi, commandWrite_of_ok hd]
  · have hplaced : (s.withFetchWord 32 w).inbox = .write cmdAddr (tableWord 32 w) :: s.inbox := rfl
    rw [step_write_cmd hplaced rfl]
    exact commandWrite_of_ok hd _

end Sys2Proof.Proofs
end

section
/-! The invariant of the block (10_state.md R44, with what R32, R222 and R232 derive): it holds at reset, and every
command, every TICK step and every step of the block keeps it. -/

namespace Sys2Proof.Proofs

open Sys2Proof.Machine Sys2Proof.Safety Sys2Proof.Laws

/-! ### Reset -/

/-- The reset state of a valid build meets the invariant (R45); twice a legal BASE_TICK fits a width register. -/
theorem inv_resetOf {b : Config.Build} (hb : BuildValid b) : Inv (State.resetOf b) where
  build := hb
  widths := by
    intro c
    have hwidth : ((State.resetOf b).width[c]).toNat = 2 * b.baseTick := by
      obtain ⟨-, -, -, hwidths, -⟩ := resetLeavesTheTabledValues b hb
      exact hwidths c
    rw [hwidth]
    exact ⟨le_rfl, Nat.mul_le_mul_right _ (by decide)⟩
  integrals := by
    intro c
    simp [State.resetOf]
  extra := Nat.zero_le _
  index := Nat.zero_le _
  indexRun := fun _ => Nat.zero_le _
  interlock := fun _ => rfl
  pins := ⟨rfl, rfl, rfl⟩
  runNotDone := fun _ => rfl
  matchAhead := Bool.noConfusion
  engineFirst := Bool.noConfusion
  elapsedBound := Bool.noConfusion
  donePastBudget := Bool.noConfusion

/-- Settles O15: `inv_resetOf` for every valid build, the reference build among them. -/
theorem resetMeetsTheInvariant : Obligations.ResetMeetsTheInvariant :=
  ⟨fun _ => inv_resetOf, inv_resetOf reference_valid⟩

/-! ### Commands -/

/-- The invariant does not read the operands, RESULT, the previous errors, the port signal or the inputs. -/
theorem inv_of_unread {s : State} (hs : Inv s) (args : Vector Word 5) (result : Word) (errLast : Vector Word 4)
    (rdata : Word) (inbox : List Input) :
    Inv { s with args := args, result := result, errLast := errLast, rdata := rdata, inbox := inbox } where
  build := hs.build
  widths := hs.widths
  integrals := hs.integrals
  extra := hs.extra
  index := hs.index
  indexRun := hs.indexRun
  interlock := hs.interlock
  pins := hs.pins
  runNotDone := hs.runNotDone
  matchAhead := hs.matchAhead
  engineFirst := hs.engineFirst
  elapsedBound := hs.elapsedBound
  donePastBudget := hs.donePastBudget

theorem inv_writeResult {s : State} (hs : Inv s) (v : Int) : Inv (writeResult s v) :=
  inv_of_unread hs s.args (signedWord v) s.errLast s.rdata s.inbox

/-- A context takes any integral within the clamp (R44 item 2). -/
theorem inv_writeContext {s : State} (hs : Inv s) (k : Fin 4) {es : Int} (el : Int)
    (hes : -1000000 ≤ es ∧ es ≤ 1000000) : Inv (writeContext s k es el) :=
  { inv_of_unread hs s.args s.result (s.errLast.set k (signedWord el)) s.rdata s.inbox with
    integrals := by
      intro c
      have hword : (signedWord es).toInt = es := signedWord_toInt (by omega) (by omega)
      rcases eq_or_ne k c with rfl | hne
      · simpa [hword] using hes
      · simpa [Vector.getElem_set_ne, Fin.val_ne_of_ne hne] using hs.integrals c }

/-- The integral of R166 is within the clamp. -/
theorem pidIntegral_range (es err : Int) : -1000000 ≤ pidIntegral es err ∧ pidIntegral es err ≤ 1000000 := by
  rw [pidIntegral_eq]
  omega

theorem inv_pidUpdate {s : State} (hs : Inv s) (k : Fin 4) : Inv (pidUpdate k s) :=
  inv_writeContext (inv_writeResult hs _) k _ (pidIntegral_range _ _)

/-- ESC.SETW keeps R44 item 1: the clamp of R186. -/
theorem inv_writeWidth {s : State} (hs : Inv s) (ch : Fin 8) (ticks : Int) :
    Inv (writeWidth s ch (clampWidth s.build ticks)) :=
  { hs with
    widths := by
      intro c
      rcases eq_or_ne ch c with rfl | hne
      · obtain ⟨hlo, hhi⟩ := clampWidth_bounds s.build ticks
        obtain ⟨-, htick⟩ := hs.build.baseTick
        have hword := signedWord_toNat (v := clampWidth s.build ticks) (by omega) (by omega)
        simp only [writeWidth_build, writeWidth_width, Fin.getElem_fin, Vector.getElem_set_self]
        omega
      · simpa [Vector.getElem_set_ne, Fin.val_ne_of_ne hne] using hs.widths c }

/-- After ESC.SAFE the interlock holds: disarming lowers the line in the same step (R184). -/
theorem interlock_setSafety (a : Bool) (s : State) : InterlockHolds (setSafety a s) := by
  rintro rfl
  rfl

theorem inv_setSafety {s : State} (hs : Inv s) (a : Bool) : Inv (setSafety a s) :=
  { hs with interlock := interlock_setSafety a s }

theorem inv_extra {s : State} (hs : Inv s) {n : BitVec 3} (hn : n.toNat ≤ 4) : Inv { s with extra := n } :=
  { hs with extra := hn }

theorem inv_clearDone {s : State} (hs : Inv s) : Inv { s with doneFlag := false } :=
  { hs with runNotDone := fun _ => rfl, donePastBudget := Bool.noConfusion }

/-- ESC.START puts the first match LEAD_TICKS ahead (R181). -/
theorem ticksToMatch_startFrame {s : State} (hb : BuildValid s.build) :
    ticksToMatch (startFrame s) = s.build.leadTicks := by
  obtain ⟨-, hlead⟩ := hb.leadTicks
  rw [ticksToMatch, startFrame_compare, startFrame_timer, BitVec.add_comm, BitVec.add_sub_cancel, BitVec.toNat_ofNat]
  omega

/-- ESC.START puts the engine T_SETTLE and three times T_PAD before IDLE (R181). -/
theorem ticksToIdle_startFrame (s : State) :
    ticksToIdle (startFrame s) = s.build.tSettle + 3 * s.build.tPad := rfl

/-- ESC.START of an idle block keeps the invariant: LEAD_TICKS is past the reset sequence (R7, R232). -/
theorem inv_startFrame {s : State} (hs : Inv s) (hi : s.seqPhase = .idle) : Inv (startFrame s) where
  build := hs.build
  widths := hs.widths
  integrals := hs.integrals
  extra := hs.extra
  index := Nat.zero_le _
  indexRun := fun _ => Nat.zero_le _
  interlock := fun _ => rfl
  pins := by
    have hpins := hs.pins
    rw [EnginePins, hi] at hpins
    obtain ⟨hdata, hclk, -⟩ := hpins
    exact ⟨hdata, hclk, hs.build.tSettle, le_rfl⟩
  runNotDone := fun _ => rfl
  matchAhead := fun _ => by
    obtain ⟨hlead, -⟩ := hs.build.leadTicks
    rw [ticksToMatch_startFrame hs.build, startFrame_build]
    omega
  engineFirst := fun _ => by
    rw [ticksToMatch_startFrame hs.build, ticksToIdle_startFrame]
    exact ⟨rfl, hs.build.leadTicks.1⟩
  elapsedBound := fun _ => Nat.zero_le _
  donePastBudget := Bool.noConfusion

/-- Every command of an idle block keeps the invariant. -/
theorem exec_keeps_inv {i : Instr} {s t : State} (hs : Inv s) (hi : s.seqPhase = .idle) (h : exec i s = .next t) :
    Inv t := by
  rcases exec_cases h with rfl | ⟨v, -, rfl⟩ | ⟨_, k, -, -, rfl⟩ | ⟨_, k, -, -, rfl⟩ | ⟨-, rfl⟩ | ⟨_, b, -, rfl⟩ |
    ⟨ch, -, rfl⟩ | ⟨n, -, rfl⟩ | ⟨-, rfl⟩
  · exact hs
  · exact inv_writeResult hs v
  · exact inv_writeContext hs k 0 (by decide)
  · exact inv_pidUpdate hs k
  · exact inv_startFrame hs hi
  · exact inv_setSafety hs b
  · exact inv_writeWidth hs _ _
  · exact inv_extra hs (by rw [extraOf_toNat]; exact Nat.min_le_right ..)
  · exact inv_clearDone hs

/-! ### TICK steps -/

/-- The timer alone changes neither the pins, the interlock nor the engine's count (R220). -/
theorem engine_ticked {s : State} (hs : Inv s) :
    EnginePins (ticked s) ∧ InterlockHolds (ticked s) ∧ ticksToIdle (ticked s) = ticksToIdle s - 1 ∧
      (busy (ticked s) = true ↔ 1 < ticksToIdle s) ∧ (busy (ticked s) = true → busy s = true) := by
  obtain ⟨hpins, hlock, hidle, -, hbusy, -, hiff⟩ :=
    engineStep_keeps (s := timerStep s) hs.build hs.pins hs.interlock
  exact ⟨hpins, hlock, hidle, hiff, hbusy⟩

/-- A TICK step with no match acted on keeps the invariant: both the match and the engine's end come one tick nearer. -/
theorem inv_ticked {s : State} (hs : Inv s) (hq : ¬ (s.seqRun = true ∧ s.timer + 1 = s.compare)) : Inv (ticked s) := by
  obtain ⟨hpins, hlock, hidle, -, hbusy⟩ := engine_ticked hs
  have hahead : s.seqRun = true → ticksToMatch (ticked s) = ticksToMatch s - 1 ∧ 1 < ticksToMatch s := fun hr => by
    obtain ⟨hone, -⟩ := hs.matchAhead hr
    have hne : ticksToMatch s ≠ 1 := fun h => hq ⟨hr, (timer_succ_eq_iff _ _).2 h⟩
    exact ⟨ticksToMatch_ticked hone, by omega⟩
  refine ⟨by simpa using hs.build, by simpa [WidthsInRange] using hs.widths,
    by simpa [IntegralsInRange] using hs.integrals, by simpa using hs.extra, by simpa using hs.index,
    by simpa using hs.indexRun, hlock, hpins, by simpa using hs.runNotDone, fun hr => ?_, fun hb => ?_,
    by simpa using hs.elapsedBound, by simpa using hs.donePastBudget⟩
  · have hr : s.seqRun = true := by simpa using hr
    obtain ⟨hstep, hlt⟩ := hahead hr
    obtain ⟨-, hle⟩ := hs.matchAhead hr
    rw [hstep, engineStep_build, timerStep_build]
    omega
  · obtain ⟨hr, hfirst⟩ := hs.engineFirst (hbusy hb)
    obtain ⟨hstep, hlt⟩ := hahead hr
    refine ⟨by simpa using hr, ?_⟩
    rw [hstep, hidle]
    omega

/-- After a match the next one is the current width ahead (R223). -/
theorem ticksToMatch_transition {s : State} (hc : s.timer + 1 = s.compare) (w : Word) :
    ticksToMatch (transition (timerStep s) w) = w.toNat := by
  rw [ticksToMatch, transition_compare, transition_timer, timerStep_compare, timerStep_timer, hc, BitVec.add_comm,
    BitVec.add_sub_cancel]

/-- After a match `elapsed` is its old value and the width, without a wrap (R32, R223). -/
theorem elapsed_transition {s : State} {w : Word} (hs : Inv s) (hr : s.seqRun = true)
    (hw : s.width[s.channelIndex.toNat]? = some w) :
    (transition (timerStep s) w).elapsed.toNat = s.elapsed.toNat + w.toNat := by
  rw [transition_elapsed, timerStep_elapsed, elapsed_add_toNat hs hr (width_le_of_getElem? hs.widths hw)]

section Match

variable {s : State} {w : Word} (hs : Inv s) (hr : s.seqRun = true) (hc : s.timer + 1 = s.compare)
  (hw : s.width[s.channelIndex.toNat]? = some w)

include hs hr hc hw

/-- The three outcomes of a match from the invariant: the next channel, the end of the frame, the last channel again
(R223, R224). -/
theorem match_outcomes :
    (s.channelIndex.toNat + 1 < 4 + s.extra.toNat ∧
      (transition (timerStep s) w).channelIndex.toNat = s.channelIndex.toNat + 1 ∧
      (transition (timerStep s) w).doneFlag = false ∧ (transition (timerStep s) w).seqRun = true) ∨
    (4 + s.extra.toNat ≤ s.channelIndex.toNat + 1 ∧ s.build.frameTicks < s.elapsed.toNat + w.toNat ∧
      (transition (timerStep s) w).channelIndex.toNat = s.channelIndex.toNat + 1 ∧
      (transition (timerStep s) w).doneFlag = true ∧ (transition (timerStep s) w).seqRun = false) ∨
    (4 + s.extra.toNat ≤ s.channelIndex.toNat + 1 ∧ s.elapsed.toNat + w.toNat ≤ s.build.frameTicks ∧
      (transition (timerStep s) w).channelIndex = s.channelIndex ∧
      (transition (timerStep s) w).doneFlag = false ∧ (transition (timerStep s) w).seqRun = true) := by
  obtain ⟨t, ht, -, -, hadvance, hstop, hrepeat⟩ := compareMatchAdvancesRepeatsOrStops s w hs hr hc hw
  obtain rfl : t = transition (timerStep s) w :=
    Host.Outcome.next.inj (ht.symm.trans (tickStep_of_match hs hr hc hw))
  by_cases hd : 4 + s.extra.toNat ≤ s.channelIndex.toNat + 1
  · by_cases hx : s.build.frameTicks < s.elapsed.toNat + w.toNat
    · exact .inr (.inl ⟨hd, hx, hstop ⟨hd, hx⟩⟩)
    · exact .inr (.inr ⟨hd, Nat.le_of_not_lt hx, hrepeat ⟨hd, hx⟩⟩)
  · exact .inl ⟨Nat.lt_of_not_le hd, hadvance hd⟩

/-- A match keeps the invariant. -/
theorem inv_transition : Inv (transition (timerStep s) w) := by
  have hphase : s.seqPhase = .idle := seqPhase_idle_of_match hs hc
  have hlegal := hs.indexRun hr
  have hextra := hs.extra
  have hbound := hs.elapsedBound hr
  have helapsed := elapsed_transition hs hr hw
  have hahead := ticksToMatch_transition hc w
  obtain ⟨hi, hwi⟩ := Vector.getElem?_eq_some_iff.1 hw
  obtain ⟨hlo, hhi⟩ : 2 * s.build.baseTick ≤ w.toNat ∧ w.toNat ≤ 4 * s.build.baseTick := hwi ▸ hs.widths ⟨_, hi⟩
  obtain ⟨hone, -⟩ := hs.build.baseTick
  have hout := match_outcomes hs hr hc hw
  have hidle : busy (transition (timerStep s) w) = false := by simp [busy, hphase]
  refine ⟨by simpa using hs.build, by simpa [WidthsInRange] using hs.widths,
    by simpa [IntegralsInRange] using hs.integrals, by simpa using hextra, ?_, fun hrun => ?_,
    by simpa [InterlockHolds] using hs.interlock, by simpa [EnginePins] using hs.pins, fun hrun => ?_, fun _ => ?_,
    fun hb => ?_, fun hrun => ?_, fun hdone => ?_⟩
  · rcases hout with ⟨-, hidx, -⟩ | ⟨-, -, hidx, -⟩ | ⟨-, -, hidx, -⟩ <;> rw [hidx] <;> omega
  · rcases hout with ⟨hlt, hidx, -⟩ | ⟨-, -, -, -, hstop⟩ | ⟨-, -, hidx, -⟩
    · rw [hidx]; omega
    · simp [hstop] at hrun
    · rwa [hidx]
  · rcases hout with ⟨-, -, hdone, -⟩ | ⟨-, -, -, -, hstop⟩ | ⟨-, -, -, hdone, -⟩
    · exact hdone
    · simp [hstop] at hrun
    · exact hdone
  · rw [hahead, transition_build, timerStep_build]
    omega
  · simp [hidle] at hb
  · rw [helapsed, transition_build, timerStep_build]
    rcases hout with ⟨-, hidx, -⟩ | ⟨-, -, -, -, hstop⟩ | ⟨-, hle, -⟩
    · rw [hidx, Nat.succ_mul]
      omega
    · simp [hstop] at hrun
    · exact hle.trans (Nat.le_add_right ..)
  · rw [helapsed, transition_build, timerStep_build]
    rcases hout with ⟨-, -, hnot, -⟩ | ⟨-, hlt, -⟩ | ⟨-, -, -, hnot, -⟩
    · simp [hnot] at hdone
    · exact hlt
    · simp [hnot] at hdone

end Match

/-- A TICK step keeps the invariant. -/
theorem tickStep_keeps_inv {s t : State} (hs : Inv s) (h : tickStep s = .next t) : Inv t := by
  rcases tickStep_cases h with ⟨hq, rfl⟩ | ⟨hr, hc, hi, -⟩
  · exact inv_ticked hs hq
  · have hw := Vector.getElem?_eq_getElem (xs := s.width) hi
    rw [tickStep_of_match hs hr hc hw] at h
    cases h
    exact inv_transition hs hr hc hw

/-! ### Steps of the block -/

theorem inv_inbox {s : State} (hs : Inv s) (rest : List Input) : Inv { s with inbox := rest } :=
  inv_of_unread hs s.args s.result s.errLast s.rdata rest

/-- Settles O14: each effect of `step_effects` keeps the invariant; a command runs only in an idle block (R69). -/
theorem everyStepKeepsTheInvariant : Obligations.EveryStepKeepsTheInvariant := by
  intro s t hs h
  rcases step_effects h with ⟨u, hu, ht⟩ | ⟨rest, -, rfl⟩ | ⟨a, rest, -, rfl⟩ | ⟨a, v, rest, -, hwrite⟩
  · have hInv : Inv u := by
      rcases hu with rfl | ⟨rest, -, rfl⟩
      · exact hs
      · exact inv_inbox hs rest
    exact tickStep_keeps_inv hInv ht
  · exact inv_inbox (inv_resetOf hs.build) rest
  · exact inv_of_unread hs s.args s.result s.errLast _ rest
  · rcases hwrite with ⟨i, rfl⟩ | ⟨hi, c, -, hc⟩ | rfl
    · exact inv_of_unread hs _ s.result s.errLast s.rdata rest
    · exact exec_keeps_inv (inv_inbox hs rest) hi hc
    · exact inv_inbox hs rest

end Sys2Proof.Proofs
end

section
/-! What each command writes and what it leaves alone (10_state.md sections 1 to 8): by element, by address of the
register map, and by PID context (43_pid.md R160). -/

namespace Sys2Proof.Proofs

open Sys2Proof.Machine Sys2Proof.Safety Sys2Proof.Laws

/-! ### By element -/

/-- ESC.SAFE disarms, arms, or changes nothing (R184, R185). -/
theorem exec_escSafe_cases {a : Idx} {s t : State} (h : exec (.escSafe a) s = .next t) :
    t = s ∨ (a = 0 ∧ t = setSafety false s) ∨ (a = 1 ∧ t = setSafety true s) := by
  by_cases h0 : a = 0
  · subst h0
    cases h
    exact .inr (.inl ⟨rfl, rfl⟩)
  · by_cases h1 : a = 1
    · subst h1
      cases h
      exact .inr (.inr ⟨rfl, rfl⟩)
    · have hge : 2 ≤ a.toNat := by
        have hne0 : a.toNat ≠ 0 := fun h => h0 (BitVec.eq_of_toNat_eq h)
        have hne1 : a.toNat ≠ 1 := fun h => h1 (BitVec.eq_of_toNat_eq h)
        omega
      rw [exec_escSafe_of_ge hge] at h
      cases h
      exact .inl rfl

/-- PID.UPD writes RESULT and the two words of its context (R162). -/
theorem pidUpdate_writes (k : Fin 4) (s : State) :
    ∃ v es el, pidUpdate k s = writeContext (writeResult s v) k es el := ⟨_, _, _, rfl⟩

/-- Settles O23: in each case of `exec_cases` the written fields are those of the command; the armed bit of ESC.SAFE is
its `idx`. -/
theorem elementsHaveOnlyTheirWriters : Obligations.ElementsHaveOnlyTheirWriters := by
  intro i s t h
  rcases exec_cases h with rfl | ⟨v, -, rfl⟩ | ⟨c, k, -, -, rfl⟩ | ⟨c, k, -, -, rfl⟩ | ⟨rfl, rfl⟩ | ⟨a, b, rfl, -⟩ |
    ⟨ch, rfl, rfl⟩ | ⟨n, rfl, rfl⟩ | ⟨rfl, rfl⟩
  case inr.inr.inr.inr.inr.inl =>
    rcases exec_escSafe_cases h with rfl | ⟨rfl, rfl⟩ | ⟨rfl, rfl⟩ <;> simp
  case inr.inr.inr.inl =>
    obtain ⟨v, es, el, hwrites⟩ := pidUpdate_writes k s
    simp [hwrites]
  all_goals simp

/-! ### By address -/

theorem sameReads_refl (s : State) (l : List Addr) : SameReads s s l := fun _ _ => rfl

/-- Two writes together change what either of them changes. -/
theorem sameReads_trans {s t u : State} {l l' : List Addr} (h : SameReads s t l) (h' : SameReads t u l') :
    SameReads s u (l ++ l') := fun a ha => by
  rw [List.mem_append, not_or] at ha
  exact (h' a ha.2).trans (h a ha.1)

theorem toNat_ne_of_not_mem {a b : Addr} {l : List Addr} (ha : a ∉ l) (hb : b ∈ l) : a.toNat ≠ b.toNat :=
  fun h => ha (BitVec.eq_of_toNat_eq h ▸ hb)

theorem sameReads_writeResult (s : State) (v : Int) : SameReads s (writeResult s v) [0x05] := fun _ ha =>
  portRead_congr (fun _ => rfl) (fun h => absurd h (toNat_ne_of_not_mem ha (.head _))) (fun _ => rfl) (fun _ => rfl)
    (fun _ => rfl) (fun _ => rfl) (fun _ => rfl) (fun _ => rfl) (fun _ => rfl)

/-- A context is read at its two words (R64). -/
theorem sameReads_writeContext (s : State) (k : Fin 4) (es el : Int) :
    SameReads s (writeContext s k es el) [BitVec.ofNat 6 (0x20 + k), BitVec.ofNat 6 (0x28 + k)] := by
  intro a ha
  have hsum : a.toNat ≠ 0x20 + k := addr_toNat (n := 0x20 + k) (by omega) ▸ toNat_ne_of_not_mem ha (by simp)
  have hlast : a.toNat ≠ 0x28 + k := addr_toNat (n := 0x28 + k) (by omega) ▸ toNat_ne_of_not_mem ha (by simp)
  exact portRead_congr (fun _ => rfl) (fun _ => rfl) (fun _ => rfl) (fun _ => rfl) (fun _ => rfl) (fun _ => rfl)
    (fun _ => rfl) (fun _ => Vector.getElem_set_ne k.isLt _ (by omega))
    (fun _ => Vector.getElem_set_ne k.isLt _ (by omega))

theorem sameReads_pidUpdate (s : State) (k : Fin 4) :
    SameReads s (pidUpdate k s) [0x05, BitVec.ofNat 6 (0x20 + k), BitVec.ofNat 6 (0x28 + k)] :=
  sameReads_trans (sameReads_writeResult s _) (sameReads_writeContext _ k _ _)

/-- A width is read at its word (R64). -/
theorem sameReads_writeWidth (s : State) (ch : Fin 8) (v : Int) :
    SameReads s (writeWidth s ch v) [BitVec.ofNat 6 (0x10 + ch)] := by
  intro a ha
  have hwidth : a.toNat ≠ 0x10 + ch := addr_toNat (n := 0x10 + ch) (by omega) ▸ toNat_ne_of_not_mem ha (by simp)
  exact portRead_congr (fun _ => rfl) (fun _ => rfl) (fun _ => rfl) (fun _ => rfl) (fun _ => rfl) (fun _ => rfl)
    (fun _ => Vector.getElem_set_ne ch.isLt _ (by omega)) (fun _ => rfl) (fun _ => rfl)

/-- The flags, the extra count and the reset line are read in STATUS only (R40). -/
theorem sameReads_status (s : State) (done armed rst : Bool) (extra : BitVec 3) :
    SameReads s { s with doneFlag := done, safetyArmed := armed, srRst := rst, extra := extra } [0x07] := fun _ ha =>
  portRead_congr (fun _ => rfl) (fun _ => rfl) (fun h => absurd h (toNat_ne_of_not_mem ha (.head _))) (fun _ => rfl)
    (fun _ => rfl) (fun _ => rfl) (fun _ => rfl) (fun _ => rfl) (fun _ => rfl)

theorem sameReads_setSafety (s : State) (a : Bool) : SameReads s (setSafety a s) [0x07] :=
  sameReads_status s s.doneFlag a (if a then s.srRst else false) s.extra

theorem sameReads_startFrame (s : State) : SameReads s (startFrame s) [0x07, 0x09, 0x0A] := fun _ ha =>
  portRead_congr (fun _ => rfl) (fun _ => rfl) (fun h => absurd h (toNat_ne_of_not_mem (b := 0x07) ha (by simp)))
    (fun _ => rfl) (fun h => absurd h (toNat_ne_of_not_mem (b := 0x09) ha (by simp)))
    (fun h => absurd h (toNat_ne_of_not_mem (b := 0x0A) ha (by simp))) (fun _ => rfl) (fun _ => rfl) (fun _ => rfl)

/-- No command touches the parameters, the port signal or the inputs (R43, R62). -/
theorem exec_keeps_outside {i : Instr} {s t : State} (h : exec i s = .next t) :
    t.build = s.build ∧ t.rdata = s.rdata ∧ t.inbox = s.inbox := by
  rcases exec_cases h with rfl | ⟨_, -, rfl⟩ | ⟨_, _, -, -, rfl⟩ | ⟨_, _, -, -, rfl⟩ | ⟨-, rfl⟩ | ⟨_, _, -, rfl⟩ |
    ⟨_, -, rfl⟩ | ⟨_, -, rfl⟩ | ⟨-, rfl⟩ <;> exact ⟨rfl, rfl, rfl⟩

/-- Settles O22: each case of `exec_cases` is a write whose addresses are those of its lemma above. -/
theorem commandsLeaveOtherRegistersAlone : Obligations.CommandsLeaveOtherRegistersAlone := by
  intro i s t h
  refine ⟨exec_keeps_outside h, ?_⟩
  rcases exec_cases h with rfl | ⟨v, hi, rfl⟩ | ⟨c, k, hk, rfl, rfl⟩ | ⟨c, k, hk, rfl, rfl⟩ | ⟨rfl, rfl⟩ |
    ⟨a, b, rfl, rfl⟩ | ⟨ch, rfl, rfl⟩ | ⟨n, rfl, rfl⟩ | ⟨rfl, rfl⟩
  · simp [sameReads_refl]
  · rcases hi with rfl | rfl | rfl | rfl | rfl <;> simpa using sameReads_writeResult s v
  · simpa [hk] using sameReads_writeContext s k 0 0
  · simpa [hk] using ⟨sameReads_pidUpdate s k, rfl⟩
  · simpa using sameReads_startFrame s
  · simpa using sameReads_setSafety s b
  · simpa using sameReads_writeWidth s (channelOf ch) _
  · simpa using sameReads_status s s.doneFlag s.safetyArmed s.srRst (extraOf n)
  · simpa using sameReads_status s false s.safetyArmed s.srRst s.extra

/-! ### By PID context -/

/-- A PID command leaves every context alone but the one its `idx` names (R160). -/
theorem other_context_of_pid {c : Idx} {s t : State} (h : exec (.pidInit c) s = .next t ∨ exec (.pidUpd c) s = .next t)
    {k : Fin 4} (hk : k.val ≠ c.toNat) : t.errSum[k] = s.errSum[k] ∧ t.errLast[k] = s.errLast[k] := by
  by_cases hc : c.toNat < 4
  · rw [exec_pidInit_of_lt hc, exec_pidUpd_of_lt hc] at h
    rcases h with h | h <;> cases h <;>
      exact ⟨Vector.getElem_set_ne hc _ hk.symm, Vector.getElem_set_ne hc _ hk.symm⟩
  · rw [exec_pidInit_of_ge (Nat.le_of_not_lt hc), exec_pidUpd_of_ge (Nat.le_of_not_lt hc)] at h
    rcases h with h | h <;> cases h <;> exact ⟨rfl, rfl⟩

/-- No other command writes a context (R28). -/
theorem contexts_of_not_pid {i : Instr} {s t : State} (hi : ∀ c, i ≠ .pidInit c ∧ i ≠ .pidUpd c)
    (h : exec i s = .next t) : t.errSum = s.errSum ∧ t.errLast = s.errLast := by
  rcases exec_cases h with rfl | ⟨_, -, rfl⟩ | ⟨c, _, -, hc, -⟩ | ⟨c, _, -, hc, -⟩ | ⟨-, rfl⟩ | ⟨_, _, -, rfl⟩ |
    ⟨_, -, rfl⟩ | ⟨_, -, rfl⟩ | ⟨-, rfl⟩
  case inr.inr.inl => exact absurd hc (hi c).1
  case inr.inr.inr.inl => exact absurd hc (hi c).2
  all_goals exact ⟨rfl, rfl⟩

theorem tickStep_contexts {s t : State} (h : tickStep s = .next t) : t.errSum = s.errSum ∧ t.errLast = s.errLast := by
  rcases tickStep_cases h with ⟨-, rfl⟩ | ⟨-, -, -, rfl⟩ <;> simp

/-- PID.UPD reads the operands and its own context, so states that agree on them get the same writes (R162). -/
theorem pidUpdate_writes_of_agree {s s' : State} {k : Fin 4} (ha : s'.args = s.args) (hs : s'.errSum[k] = s.errSum[k])
    (hl : s'.errLast[k] = s.errLast[k]) : ∃ v es el, pidUpdate k s = writeContext (writeResult s v) k es el ∧
      pidUpdate k s' = writeContext (writeResult s' v) k es el :=
  ⟨_, _, _, rfl, by simp only [pidUpdate, argInt, ha, hs, hl]⟩

/-- Settles O38: a PID command with a legal `idx` writes its own context and reads no other; all else writes none. -/
theorem pidContextsAreIndependent : Obligations.PidContextsAreIndependent := by
  refine ⟨fun c s t h k hk => other_context_of_pid h hk, fun i s t hi h => contexts_of_not_pid hi h,
    fun s t h => tickStep_contexts h, fun c k s s' t t' hk ha hs hl h h' => ?_⟩
  have hc : c.toNat < 4 := hk ▸ k.isLt
  obtain rfl : k = ⟨c.toNat, hc⟩ := Fin.ext hk.symm
  rw [exec_pidUpd_of_lt hc] at h h'
  cases h
  cases h'
  obtain ⟨v, es, el, hw, hw'⟩ := pidUpdate_writes_of_agree ha hs hl
  simp [hw, hw']

end Sys2Proof.Proofs
end

section
/-! What one step of the block can do (20_memory.md R73, 60_exceptions.md R210 to R224): which input it takes, what it
leaves alone, and when ESC_OUT, `done_flag` and the reset line change. -/

namespace Sys2Proof.Proofs

open Sys2Proof.Machine Sys2Proof.Safety Sys2Proof.Laws

/-! ### The input of a step -/

/-- With no input left a step is a TICK (log 2). -/
theorem step_of_nil {s : State} (h : s.inbox = []) : step s = tickStep s := by
  simp [step, advance, h]

/-- Settles O49: an empty list gives a TICK, and a TICK in the list is never held. -/
theorem stepTakesTheNextInput : Obligations.StepTakesTheNextInput :=
  ⟨fun _ => step_of_nil, fun _ _ h => step_of_ready h rfl⟩

/-- Settles O18: the reset input is never held, and is the reset state with the inputs kept. -/
theorem resetInputRestoresTheResetState : Obligations.ResetInputRestoresTheResetState :=
  fun _ _ h => step_of_ready h rfl

/-! ### A TICK step -/

/-- Settles O50: with the engine idle and no match, the last case of the order of a TICK step. -/
theorem quietTickChangesOnlyTheTimer : Obligations.QuietTickChangesOnlyTheTimer := by
  intro s hi hq
  obtain ⟨-, hquiet⟩ := tickRunsTimerEngineMatchInOrder s
  refine hquiet hi fun ⟨hr, hc⟩ => ?_
  rcases hq with hstop | hne
  · simp [hstop] at hr
  · exact hne hc

/-- Settles O24: both cases of `tickStep_cases` keep these fields. -/
theorem tickTouchesOnlyTheSequencer : Obligations.TickTouchesOnlyTheSequencer := by
  intro s t h
  rcases tickStep_cases h with ⟨-, rfl⟩ | ⟨-, -, -, rfl⟩ <;> simp

/-- A TICK step counts the timer and toggles ESC_OUT exactly in a match (R220, R223). -/
theorem tickStep_timer_escOut {s t : State} (h : tickStep s = .next t) :
    t.timer = s.timer + 1 ∧ (t.escOut ≠ s.escOut ↔ s.seqRun = true ∧ s.timer + 1 = s.compare) := by
  rcases tickStep_cases h with ⟨hq, rfl⟩ | ⟨hr, hc, -, rfl⟩
  · simpa using hq
  · simpa [hr] using hc

/-- SR_RST rises in the SETTLE action of an armed block and nowhere else in the engine (R228 to R231). -/
theorem engineStep_srRst (s : State) : (engineStep s).srRst = s.srRst ∨
    (s.seqPhase = .settle ∧ s.safetyArmed = true ∧ (engineStep s).seqPhase = .pad1) := by
  rcases engineStep_cases s with ⟨-, h⟩ | ⟨-, -, h⟩ | ⟨-, -, h⟩ <;> rw [h]
  · exact .inl rfl
  · exact .inl rfl
  · unfold phaseAction
    split
    case h_2 hp =>
      cases ha : s.safetyArmed with
      | true => exact .inr ⟨hp, rfl, rfl⟩
      | false => simp [ha]
    all_goals exact .inl rfl

/-- SR_RST rises in the SETTLE action of an armed block and nowhere else in a TICK step (R223, R228). -/
theorem tickStep_srRst {s t : State} (h : tickStep s = .next t) : t.srRst = s.srRst ∨
    (s.seqPhase = .settle ∧ s.safetyArmed = true ∧ t.seqPhase = .pad1) := by
  rcases tickStep_cases h with ⟨-, rfl⟩ | ⟨-, -, -, rfl⟩
  · exact engineStep_srRst (timerStep s)
  · simpa using engineStep_srRst (timerStep s)

/-- `done_flag` rises in a match that stops the frame and nowhere else in a TICK step (R224). -/
theorem tickStep_doneFlag {s t : State} (h : tickStep s = .next t) (hs : s.doneFlag = false) (ht : t.doneFlag = true) :
    s.seqRun = true ∧ t.seqRun = false ∧ s.timer + 1 = s.compare ∧ s.build.frameTicks < t.elapsed.toNat ∧
      4 + s.extra.toNat ≤ t.channelIndex.toNat ∧ t.channelIndex.toNat = s.channelIndex.toNat + 1 := by
  rcases tickStep_cases h with ⟨-, rfl⟩ | ⟨hr, hc, hi, rfl⟩
  · simp [hs] at ht
  · rcases transition_cases (ticked s) s.width[s.channelIndex.toNat] with ⟨-, he⟩ | ⟨hdue, hover, he⟩ | ⟨-, -, he⟩
    · simp [he, hs] at ht
    · have hone : (1 : BitVec 4).toNat = 1 := rfl
      have hindex : (s.channelIndex + 1).toNat = s.channelIndex.toNat + 1 := by
        rw [BitVec.toNat_add_of_lt (by omega), hone]
      rw [he]
      simp only [activeChannels, Config.nPrimary, engineStep_extra, timerStep_extra, engineStep_channelIndex,
        timerStep_channelIndex, engineStep_build, timerStep_build, engineStep_elapsed, timerStep_elapsed] at hdue hover
      exact ⟨hr, rfl, hc, by simpa using hover, by simpa using hdue, by simpa using hindex⟩
    · simp [he, hs] at ht

/-! ### Every step -/

/-- A step is a TICK of the state, whatever becomes of the inputs, or it leaves the timer, ESC_OUT, SR_DATA and SR_CLK
alone, raises neither `done_flag` nor SR_RST, and keeps the build; but for the reset input (R73). -/
theorem step_tick_or_host {s t : State} (h : step s = .next t) (hreset : s.inbox.head? ≠ some .reset) :
    (∃ rest, tickStep { s with inbox := rest } = .next t) ∨
    (t.build = s.build ∧ t.timer = s.timer ∧ t.escOut = s.escOut ∧ (t.doneFlag = true → s.doneFlag = true) ∧
      (t.srRst = true → s.srRst = true)) := by
  rcases step_effects h with ⟨u, hu, ht⟩ | ⟨rest, hin, -⟩ | ⟨a, rest, -, rfl⟩ | ⟨a, v, rest, -, hwrite⟩
  · rcases hu with rfl | ⟨rest, -, rfl⟩
    · exact .inl ⟨u.inbox, ht⟩
    · exact .inl ⟨rest, ht⟩
  · simp [hin] at hreset
  · exact .inr ⟨rfl, rfl, rfl, id, id⟩
  · rcases hwrite with ⟨i, rfl⟩ | ⟨-, c, -, hc⟩ | rfl
    · exact .inr ⟨rfl, rfl, rfl, id, id⟩
    · obtain ⟨hbuild, -⟩ := exec_keeps_outside hc
      obtain ⟨⟨htimer, hout, -⟩, -, -, -, hrst, hdone, -⟩ := elementsHaveOnlyTheirWriters c _ t hc
      refine .inr ⟨hbuild, htimer, hout, fun hd => ?_, fun hr => ?_⟩
      · by_contra hne
        simpa [hd] using hdone fun he => hne (he ▸ hd)
      · by_contra hne
        simpa [hr] using hrst fun he => hne (he ▸ hr)
    · exact .inr ⟨rfl, rfl, rfl, id, id⟩

/-- The reset input is the reset state (R250). -/
theorem step_of_reset {s t : State} (h : step s = .next t) (hreset : s.inbox.head? = some .reset) :
    t = { State.resetOf s.build with inbox := s.inbox.tail } := by
  obtain ⟨rest, hin⟩ := List.head?_eq_some_iff.1 hreset
  rw [resetInputRestoresTheResetState s rest hin] at h
  cases h
  rw [hin, List.tail_cons]

/-- Settles O19: TICK steps and commands keep the build, and the reset state is that of the same build. -/
theorem noStepChangesTheBuild : Obligations.NoStepChangesTheBuild := by
  intro s t h
  by_cases hreset : s.inbox.head? = some .reset
  · rw [step_of_reset h hreset]
    rfl
  · rcases step_tick_or_host h hreset with ⟨rest, ht⟩ | ⟨hbuild, -⟩
    · obtain ⟨-, -, -, -, -, -, -, hbuild, -⟩ := tickTouchesOnlyTheSequencer _ t ht
      exact hbuild
    · exact hbuild

/-- Settles O53: `done_flag` rises in a TICK step only, in the match that `tickStep_doneFlag` describes. -/
theorem frameEndsOnlyPastItsBudget : Obligations.FrameEndsOnlyPastItsBudget := by
  intro s t h hs ht
  by_cases hreset : s.inbox.head? = some .reset
  · rw [step_of_reset h hreset] at ht
    exact Bool.noConfusion ht
  · rcases step_tick_or_host h hreset with ⟨rest, htick⟩ | ⟨-, -, -, hdone, -⟩
    · obtain ⟨hr, hstop, hc, hover, hdue, hindex⟩ := tickStep_doneFlag htick hs ht
      obtain ⟨htimer, hout⟩ := tickStep_timer_escOut htick
      exact ⟨hr, hstop, htimer, htimer.trans hc, Bool.eq_not_of_ne (hout.2 ⟨hr, hc⟩), hover, hdue, hindex⟩
    · exact absurd (hdone ht) (by simp [hs])

/-- Settles O54: in a TICK step the toggle is the match; every other step but a reset leaves both the timer and the pin
alone. -/
theorem outputTogglesExactlyAtAMatch : Obligations.OutputTogglesExactlyAtAMatch := by
  intro s t h hreset
  rcases step_tick_or_host h hreset with ⟨rest, htick⟩ | ⟨-, htimer, hout, -⟩
  · obtain ⟨htimer, hout⟩ := tickStep_timer_escOut htick
    rw [htimer]
    simpa using hout
  · rw [htimer, hout]
    simp

/-! ### The interlock -/

/-- A command keeps the interlock: none raises the line, and disarming lowers it (R184, R185). -/
theorem exec_keeps_interlock {i : Instr} {s t : State} (hs : InterlockHolds s) (h : exec i s = .next t) :
    InterlockHolds t := by
  rcases exec_cases h with rfl | ⟨_, -, rfl⟩ | ⟨_, _, -, -, rfl⟩ | ⟨_, _, -, -, rfl⟩ | ⟨-, rfl⟩ | ⟨_, b, -, rfl⟩ |
    ⟨_, -, rfl⟩ | ⟨_, -, rfl⟩ | ⟨-, rfl⟩
  case inr.inr.inr.inr.inl => exact fun _ => rfl
  case inr.inr.inr.inr.inr.inl => exact interlock_setSafety b s
  all_goals exact hs

/-- A TICK step keeps the interlock: the line rises only if armed (R228). -/
theorem tickStep_keeps_interlock {s t : State} (hs : InterlockHolds s) (h : tickStep s = .next t) :
    InterlockHolds t := by
  intro ht
  obtain ⟨-, -, -, -, -, -, harmed, -⟩ := tickTouchesOnlyTheSequencer s t h
  have hdisarmed : s.safetyArmed = false := harmed ▸ ht
  rcases tickStep_srRst h with hsame | ⟨-, hon, -⟩
  · exact hsame.trans (hs hdisarmed)
  · simp [hdisarmed] at hon

/-- Every step of every agent keeps the interlock (R185). -/
theorem step_keeps_interlock {s t : State} (hs : InterlockHolds s) (h : step s = .next t) : InterlockHolds t := by
  rcases step_effects h with ⟨u, hu, ht⟩ | ⟨rest, -, rfl⟩ | ⟨a, rest, -, rfl⟩ | ⟨a, v, rest, -, hwrite⟩
  · refine tickStep_keeps_interlock ?_ ht
    rcases hu with rfl | ⟨rest, -, rfl⟩ <;> exact hs
  · exact fun _ => rfl
  · exact hs
  · rcases hwrite with ⟨i, rfl⟩ | ⟨-, c, -, hc⟩ | rfl
    · exact hs
    · exact exec_keeps_interlock (s := { s with inbox := rest }) hs hc
    · exact hs

/-- What every step keeps, every run keeps. -/
theorem run_keeps {P : State → Prop} (hstep : ∀ s t, P s → step s = .next t → P t) (n : Nat) {s t : State} (hs : P s)
    (h : Host.Core.run core n s = .next t) : P t := by
  induction n generalizing s with
  | zero =>
    cases h
    exact hs
  | succ n ih =>
    cases hu : step s with
    | next u =>
      rw [run_succ n hu] at h
      exact ih (hstep s u hs hu) h
    | fault r => simp [Host.Core.run, core, hu] at h
    | refused r => simp [Host.Core.run, core, hu] at h

/-- Settles O42: the interlock is kept by every step, so by every run; of the steps only a TICK raises the line, and a
TICK only as `tickStep_srRst` says. -/
theorem disarmedNeverRaisesTheResetLine : Obligations.DisarmedNeverRaisesTheResetLine := by
  refine ⟨fun n s t hs h => run_keeps (fun _ _ => step_keeps_interlock) n hs h, fun s t h hlow hhigh => ?_⟩
  by_cases hreset : s.inbox.head? = some .reset
  · rw [step_of_reset h hreset] at hhigh
    exact Bool.noConfusion hhigh
  · rcases step_tick_or_host h hreset with ⟨rest, htick⟩ | ⟨-, -, -, -, hrst⟩
    · obtain ⟨htimer, -⟩ := tickStep_timer_escOut htick
      obtain ⟨-, -, -, -, -, -, harmed, -⟩ := tickTouchesOnlyTheSequencer _ t htick
      rcases tickStep_srRst htick with hsame | ⟨hphase, hon, hnext⟩
      · simp [hsame, hlow] at hhigh
      · exact ⟨hon, harmed.trans hon, hphase, hnext, htimer⟩
    · exact absurd (hrst hhigh) (by simp [hlow])

/-! ### No step stops -/

/-- Every command answers a next state (R210). -/
theorem exec_next (i : Instr) (s : State) : ∃ t, exec i s = .next t := by
  cases i with
  | pidInit c =>
    rcases Nat.lt_or_ge c.toNat 4 with hc | hc
    · exact ⟨_, exec_pidInit_of_lt hc s⟩
    · exact ⟨_, exec_pidInit_of_ge hc s⟩
  | pidUpd c =>
    rcases Nat.lt_or_ge c.toNat 4 with hc | hc
    · exact ⟨_, exec_pidUpd_of_lt hc s⟩
    · exact ⟨_, exec_pidUpd_of_ge hc s⟩
  | escSafe a =>
    cases ha : armedOf a with
    | some b => exact ⟨_, exec_escSafe_of_armedOf ha s⟩
    | none => exact ⟨s, by simp only [exec, execEscSafe, ha]⟩
  | nop | smuldiv | atan2 | asin | escStart | escSetw | escTotal | escSetx | escIsdone | escClrdone => exact ⟨_, rfl⟩

/-- From the invariant a TICK step answers a next state: the current channel has a width (R225). -/
theorem tickStep_next {s : State} (hs : Inv s) : ∃ t, tickStep s = .next t := by
  by_cases hm : s.seqRun = true ∧ s.timer + 1 = s.compare
  · obtain ⟨hr, hc⟩ := hm
    exact ⟨_, tickStep_match hr hc (Nat.lt_succ_of_le (hs.indexRun hr))⟩
  · exact ⟨_, tickStep_quiet hm⟩

/-- A host write answers a next state in every state (R210). -/
theorem hostWrite_next (a : Addr) (v : Word) (s : State) : ∃ t, hostWrite a v s = .next t := by
  unfold hostWrite
  split
  · exact ⟨_, rfl⟩
  · split
    · unfold commandWrite
      split
      · exact exec_next _ s
      · exact ⟨_, rfl⟩
    · exact ⟨_, rfl⟩

/-- From the invariant a step answers a next state. -/
theorem step_next {s : State} (hs : Inv s) : ∃ t, step s = .next t := by
  unfold step advance
  split
  · exact tickStep_next hs
  · next x rest _ =>
    split
    · cases x with
      | tick => exact tickStep_next (inv_inbox hs rest)
      | read a => exact ⟨_, rfl⟩
      | write a v => exact hostWrite_next a v _
      | reset => exact ⟨_, rfl⟩
    · exact tickStep_next hs

/-- Settles O16: the commands by `exec_next`, the steps by `step_next` and the kept invariant. -/
theorem nothingEverStopsTheBlock : Obligations.NothingEverStopsTheBlock := by
  refine ⟨exec_next, fun s hs => ?_⟩
  obtain ⟨t, ht⟩ := step_next hs
  exact ⟨t, ht, everyStepKeepsTheInvariant s t hs ht⟩

end Sys2Proof.Proofs
end

section
/-! The scaled arithmetic (40_scaled_arith.md section 2) in closed form by the signs, the pseudo-instruction MULDIV
(30_encoding.md R99), and the rounding of PID.UPD that follows from them (43_pid.md section 3). -/

namespace Sys2Proof.Proofs

open Sys2Proof.Machine Sys2Proof.Laws

/-! ### The rounding division -/

/-- Half of the divisor added before the division, or the divisor added to the doubled dividend: the same rounding. -/
theorem add_half_div (P D : Nat) : (P + D / 2) / D = (2 * P + D) / (2 * D) := by
  rw [← Nat.div_div_eq_div_mul]
  congr 1
  omega

/-- Half of the divisor subtracted instead of added: one less, or the same (R117). -/
theorem sub_half_div {P D : Nat} (hD : 0 < D) (h : D / 2 ≤ P) :
    (P - D / 2) / D = (P + D / 2) / D ∨ (P - D / 2) / D + 1 = (P + D / 2) / D := by
  have hupper : (P + D / 2) / D ≤ (P - D / 2) / D + 1 := by
    rw [← Nat.add_div_right _ hD]
    exact Nat.div_le_div_right (by omega)
  have hlower : (P - D / 2) / D ≤ (P + D / 2) / D := Nat.div_le_div_right (by omega)
  omega

/-- The operands have one sign exactly when their product is not negative. -/
theorem same_sign_iff {p d : Int} (hd : d ≠ 0) : ((0 ≤ p ∧ 0 < d) ∨ (p ≤ 0 ∧ d < 0)) ↔ 0 ≤ p * d := by
  rw [mul_nonneg_iff]
  omega

/-- Settles O28: in magnitudes the rounding adds half of the divisor for a quotient that is not negative, and subtracts
it for a negative one, which is at most one unit nearer to zero. -/
theorem roundingDivisionIsWithinOneUnit : Obligations.RoundingDivisionIsWithinOneUnit := by
  intro p d hd
  have hD : 0 < d.natAbs := Int.natAbs_pos.2 hd
  simp only [rdiv_sign hd, same_sign_iff hd, ← add_half_div, ← Int.sign_mul]
  refine ⟨fun h => ?_, fun h => ?_⟩
  · rw [if_pos h]
    rcases h.eq_or_lt with hzero | hpos
    · obtain rfl : p = 0 := (mul_eq_zero.1 hzero.symm).resolve_right hd
      have hnone : d.natAbs / 2 / d.natAbs = 0 := Nat.div_eq_of_lt (by omega)
      simp [hnone]
    · rw [Int.sign_eq_one_of_pos hpos, Int.one_mul]
  · rw [if_neg h.not_ge, Int.sign_eq_neg_one_of_neg h]
    split
    · next hle => rcases sub_half_div hD hle with heq | heq <;> omega
    · next hlt =>
      have hnone : (p.natAbs + d.natAbs / 2) / d.natAbs = 0 := Nat.div_eq_of_lt (by omega)
      simp [hnone]

/-! ### SMULDIV -/

/-- The scaled product is a signed 32-bit value (R112, R114). -/
theorem scaledMulDiv_range (v n d : Int) :
    -2147483648 ≤ scaledMulDiv v n d ∧ scaledMulDiv v n d ≤ 2147483647 := by
  rw [scaledMulDiv_eq]
  split_ifs <;> omega

/-- SMULDIV answers with the scaled product in RESULT, read as signed (R112). -/
theorem exec_smuldiv_toInt (s : State) : ∃ t, exec .smuldiv s = .next t ∧
    t.result.toInt = scaledMulDiv (argInt s 0) (argInt s 1) (argInt s 2) := by
  obtain ⟨hlo, hhi⟩ := scaledMulDiv_range (argInt s 0) (argInt s 1) (argInt s 2)
  exact ⟨_, exec_smuldiv s, signedWord_toInt hlo hhi⟩

/-- The scaled product with a zero divisor: the sign of the exact product (R113). -/
theorem scaledMulDiv_zero (v n : Int) : scaledMulDiv v n 0 =
    if 0 < v * n then 2147483647 else if v * n < 0 then -2147483648 else 0 := by
  rw [scaledMulDiv_eq, if_pos rfl]

/-- The scaled product with another divisor: the rounding division, saturated (R112, R114). -/
theorem scaledMulDiv_of_ne (v n : Int) {d : Int} (hd : d ≠ 0) :
    scaledMulDiv v n d = max (-2147483648) (min 2147483647 (rdiv (v * n) d)) := by
  rw [scaledMulDiv_eq, if_neg hd]
  rfl

/-- Settles O26: the sign of a product from the signs of its factors. -/
theorem smuldivByZeroFollowsTheExactSign : Obligations.SmuldivByZeroFollowsTheExactSign := by
  intro s hd
  obtain ⟨t, ht, hresult⟩ := exec_smuldiv_toInt s
  rw [show argInt s 2 = 0 from hd, scaledMulDiv_zero] at hresult
  refine ⟨t, ht, fun h => ?_, fun h => ?_, fun h => ?_⟩
  · have hpos : 0 < argInt s 0 * argInt s 1 := mul_pos_iff.2 h
    rw [hresult, if_pos hpos]
  · have hneg : argInt s 0 * argInt s 1 < 0 := mul_neg_iff.2 h
    rw [hresult, if_neg hneg.le.not_gt, if_pos hneg]
  · have hzero : argInt s 0 * argInt s 1 = 0 := mul_eq_zero.2 h
    rw [hresult, hzero]
    rfl

/-- A divisor of magnitude 1 divides exactly (R111). -/
theorem rdiv_of_natAbs_one (p : Int) {d : Int} (hd : d.natAbs = 1) : rdiv p d = p * d.sign := by
  rcases Int.natAbs_eq d with h | h <;> rw [hd] at h <;> subst h <;> simp [rdiv, tdiv]

/-- Settles O27: `rdiv_sign` is the quotient of the statement, and SMULDIV saturates it. -/
theorem smuldivClosedFormBySign : Obligations.SmuldivClosedFormBySign := by
  intro s hd
  obtain ⟨t, ht, hresult⟩ := exec_smuldiv_toInt s
  refine ⟨t, ht, ?_, fun hone => ?_⟩
  · have hd : argInt s 2 ≠ 0 := hd
    rw [hresult, scaledMulDiv_of_ne _ _ hd, rdiv_sign hd]
    rfl
  · rw [← rdiv_of_natAbs_one _ hone, rdiv_sign hd]

/-! ### MULDIV -/

/-- A `WR ARGi` line that is the next input stores its value (R98). -/
theorem step_writeTo_arg {s : State} {v : Int} {rest : List Input} (i : Fin 5)
    (h : s.inbox = writeTo (.arg i) v :: rest) :
    step s = .next (writeArg { s with inbox := rest } i (signedWord v)) := by
  have hi : (regAddr (.arg i)).toNat = i := addr_toNat (by omega)
  rw [step_write_arg h (hi ▸ i.isLt)]
  simp only [hi]

/-- A run that begins with a `WR ARGi` line stores its value and goes on with the rest (R98). -/
theorem run_writeTo_arg (k : Nat) (s : State) (args : Vector Word 5) (i : Fin 5) (v : Int) (rest : List Input) :
    Host.Core.run core (k + 1) { s with inbox := writeTo (.arg i) v :: rest, args := args } =
      Host.Core.run core k { s with inbox := rest, args := args.set i (signedWord v) } :=
  run_succ k (step_writeTo_arg i rfl)

/-- A `CMD` line that is the next input of an idle block runs its command (R98). -/
theorem step_issue {s : State} {i : Instr} {rest : List Input} (hw : i.wellFormed = true) (hi : s.seqPhase = .idle)
    (h : s.inbox = issue i :: rest) : step s = exec i { s with inbox := rest } := by
  rw [step_write_cmd h hi, commandWrite_of_ok (decodeOfEncodeIsTheCommand i hw)]

/-- A `CMD SMULDIV` line of an idle block whose arguments hold three values (R98, R112). -/
theorem step_issue_smuldiv {s : State} {v n d : Int} {rest : List Input} (hi : s.seqPhase = .idle)
    (h : s.inbox = issue .smuldiv :: rest) (hv : argInt s 0 = v) (hn : argInt s 1 = n) (hd : argInt s 2 = d) :
    step s = .next { s with inbox := rest, result := signedWord (scaledMulDiv v n d) } := by
  rw [step_issue rfl hi h, ← hv, ← hn, ← hd]
  exact exec_smuldiv _

/-- Settles O13: three argument writes and the command, one step each; each argument holds its value exactly. -/
theorem muldivScriptComputesTheScaledProduct : Obligations.MuldivScriptComputesTheScaledProduct := by
  rintro s v n d hi hin ⟨hv, hv'⟩ ⟨hn, hn'⟩ ⟨hd, hd'⟩
  refine ⟨_, ?_, rfl⟩
  calc Host.Core.run core 4 s
      = Host.Core.run core 4 { s with inbox := lineInputs (.muldiv v n d), args := s.args } := by rw [← hin]
    _ = _ := run_writeTo_arg 3 s s.args 0 v _
    _ = _ := run_writeTo_arg 2 s _ 1 n _
    _ = _ := run_writeTo_arg 1 s _ 2 d _
    _ = _ := run_succ 0 (step_issue_smuldiv (v := v) (n := n) (d := d) hi rfl
      (by simp [argInt, signedWord_toInt hv hv']) (by simp [argInt, signedWord_toInt hn hn'])
      (by simp [argInt, signedWord_toInt hd hd']))

/-! ### PID.UPD -/

/-- The saturated error is a signed 32-bit value (R165). -/
theorem pidError_range (cur tgt : Int) : -2147483648 ≤ pidError cur tgt ∧ pidError cur tgt ≤ 2147483647 := by
  rw [pidError, sat32_eq]
  omega

/-- The output is a signed 32-bit value (R119). -/
theorem pidOutput_range (sum : Int) : -2147483648 ≤ pidOutput sum ∧ pidOutput sum ≤ 2147483647 :=
  scaledMulDiv_range _ _ _

/-- Without integral and derivative gain the sum is the error times the proportional gain (R167). -/
theorem pidSum_proportional (kp err es el : Int) : pidSum kp 0 0 err es el = err * kp := by
  simp [pidSum]

/-- The output by the sign of the sum: the rounding division by the scale of 1000 (R111, R119). -/
theorem pidOutput_by_sign (sum : Int) : pidOutput sum = max (-2147483648) (min 2147483647
    (if 0 ≤ sum then (sum + 500) / 1000 else if 500 ≤ -sum then -((-sum - 500) / 1000) else 0)) := by
  rw [pidOutput_eq]
  congr 2
  split_ifs with h0 h500
  · exact Int.tdiv_eq_ediv_of_nonneg (by omega)
  · rw [show sum + 500 = -(-sum - 500) by omega, Int.neg_tdiv, Int.tdiv_eq_ediv_of_nonneg (by omega)]
  · exact Int.tdiv_eq_zero_of_lt (by omega) (by omega)

/-- With a proportional gain alone RESULT is the output of the error times that gain (R162). -/
theorem pidUpdate_result_proportional {s : State} (k : Fin 4) (hki : argInt s 1 = 0) (hkd : argInt s 2 = 0) :
    (pidUpdate k s).result.toInt = pidOutput (pidError (argInt s 3) (argInt s 4) * argInt s 0) := by
  have hresult : (pidUpdate k s).result = signedWord (pidOutput (pidSum (argInt s 0) (argInt s 1) (argInt s 2)
      (pidError (argInt s 3) (argInt s 4))
      (pidIntegral (s.errSum[k]).toInt (pidError (argInt s 3) (argInt s 4))) (s.errLast[k]).toInt)) := rfl
  rw [hresult, hki, hkd, pidSum_proportional]
  exact signedWord_toInt (pidOutput_range _).1 (pidOutput_range _).2

/-- The new previous error is the error (R162). -/
theorem pidUpdate_errLast (s : State) (k : Fin 4) :
    ((pidUpdate k s).errLast[k]).toInt = pidError (argInt s 3) (argInt s 4) := by
  simp [pidUpdate, signedWord_toInt (pidError_range _ _).1 (pidError_range _ _).2]

/-- The new integral is the clamped sum (R162, R166). -/
theorem pidUpdate_errSum (s : State) (k : Fin 4) : ((pidUpdate k s).errSum[k]).toInt =
    pidIntegral (s.errSum[k]).toInt (pidError (argInt s 3) (argInt s 4)) := by
  obtain ⟨hlo, hhi⟩ := pidIntegral_range (s.errSum[k]).toInt (pidError (argInt s 3) (argInt s 4))
  simp only [Fin.getElem_fin] at hlo hhi
  simp only [pidUpdate, writeContext_errSum, Fin.getElem_fin, Vector.getElem_set_self]
  exact signedWord_toInt (by omega) (by omega)

/-- A thousand times the error gives the error back, and one unit more when it is negative (R119, C1). -/
theorem pidOutput_unit_gain {err : Int} (hlo : -2147483648 ≤ err) (hhi : err ≤ 2147483647) :
    pidOutput (err * 1000) = if 0 ≤ err then err else err + 1 := by
  rw [pidOutput_by_sign]
  split_ifs <;> omega

/-- Settles O37: the sum is the error times the gain, and its thousandth is rounded by its sign. -/
theorem pidProportionalRounding : Obligations.PidProportionalRounding := by
  intro c s hc hki hkd
  refine ⟨_, exec_pidUpd_of_lt hc s, ?_⟩
  rw [pidUpdate_result_proportional _ hki hkd, pidOutput_by_sign, pidError, sat32_eq]
  rfl

/-- Settles O36: the proportional rounding with the gain 1000; the context is updated as always. -/
theorem pidUnitGainReturnsTheError : Obligations.PidUnitGainReturnsTheError := by
  intro c hc s hkp hki hkd
  have herr : pidError (argInt s 3) (argInt s 4) =
      max (-2147483648) (min 2147483647 ((s.args[4]).toInt - (s.args[3]).toInt)) := sat32_eq _
  obtain ⟨hlo, hhi⟩ := pidError_range (argInt s 3) (argInt s 4)
  refine ⟨_, exec_pidUpd_of_lt hc s, ?_⟩
  rw [← herr]
  refine ⟨?_, pidUpdate_errLast s ⟨c.toNat, hc⟩, ?_⟩
  · rw [pidUpdate_result_proportional _ hki hkd, show argInt s 0 = 1000 from hkp, pidOutput_unit_gain hlo hhi]
  · rw [← pidIntegral_eq]
    exact pidUpdate_errSum s ⟨c.toNat, hc⟩

end Sys2Proof.Proofs
end

section
/-! ATAN2 and ASIN for every valid table (41_trig.md sections 2 and 3): both read the table at a ratio of magnitudes, so
their special values, ranges and symmetries follow from R150 and the signs. -/

namespace Sys2Proof.Proofs

open Sys2Proof.Machine Sys2Proof.Safety Sys2Proof.Laws

/-! ### The octant of ATAN2 -/

/-- The table index of ATAN2 from the two magnitudes: the smaller over the larger (R131). -/
def octantIndex (m n : Nat) : Nat := (min m n * 1000 + max m n / 2) / max m n

theorem octantIndex_comm (m n : Nat) : octantIndex m n = octantIndex n m := by
  rw [octantIndex, octantIndex, min_comm, max_comm]

theorem octantIndex_le (m n : Nat) : octantIndex m n ≤ 1000 := by
  rcases Nat.eq_zero_or_pos (max m n) with h | h
  · simp [octantIndex, h]
  · exact ratio_le min_le_max h

theorem octantIndex_zero {n : Nat} (hn : 0 < n) : octantIndex 0 n = 0 := by
  rw [octantIndex, Nat.zero_min, Nat.zero_max]
  exact Nat.div_eq_of_lt (by omega)

theorem octantIndex_self {n : Nat} (hn : 0 < n) : octantIndex n n = 1000 := by
  rw [octantIndex, min_self, max_self]
  exact ratio_self hn

/-- Away from the origin the index of R131 is the one of the magnitudes; equal operands have equal magnitudes. -/
theorem atan2Ratio_toNat {y x : Int} (h : ¬ (x = 0 ∧ y = 0)) :
    (atan2Ratio y x).toNat = octantIndex y.natAbs x.natAbs := by
  unfold atan2Ratio
  split
  · next heq =>
    rw [heq, octantIndex_self (by omega)]
    rfl
  · split
    · next hlt => rw [ratio_nat, octantIndex, min_eq_right hlt.le, max_eq_left hlt.le]
    · next hle => rw [ratio_nat, octantIndex, min_eq_left (Nat.le_of_not_lt hle), max_eq_right (Nat.le_of_not_lt hle)]

/-- The first-quadrant angle of ATAN2 from the magnitudes of y and x (R131). -/
def octantAngle (b : Config.Build) (m n : Nat) : Int :=
  if n < m then 90000 - (atanRom b (octantIndex m n) : Int) else atanRom b (octantIndex m n)

theorem atan2Octant_eq_octantAngle (b : Config.Build) {y x : Int} (h : ¬ (x = 0 ∧ y = 0)) :
    atan2Octant b y x = octantAngle b y.natAbs x.natAbs := by
  rw [atan2Octant, atan2Ratio_toNat h]
  rfl

/-- The quadrant rule of R131 away from the origin, on the magnitudes. -/
theorem atan2Angle_of_ne (b : Config.Build) {y x : Int} (h : ¬ (x = 0 ∧ y = 0)) : atan2Angle b y x =
    if 0 ≤ x then (if 0 ≤ y then octantAngle b y.natAbs x.natAbs else -octantAngle b y.natAbs x.natAbs)
    else (if 0 ≤ y then 180000 - octantAngle b y.natAbs x.natAbs else octantAngle b y.natAbs x.natAbs - 180000) := by
  rw [atan2Angle_eq, if_neg h, atan2Octant_eq_octantAngle b h]

theorem atan2Angle_origin (b : Config.Build) : atan2Angle b 0 0 = 0 := rfl

section Octant

variable {b : Config.Build} (hb : BuildValid b)

include hb

theorem atanRom_zero : atanRom b 0 = 0 := by
  obtain ⟨-, hfirst, -⟩ := hb.atanRom
  exact hfirst

theorem atanRom_last : atanRom b 1000 = 45000 := by
  obtain ⟨-, -, hlast, -⟩ := hb.atanRom
  exact hlast

/-- The octant angle is in the first quadrant (R134). -/
theorem octantAngle_range (m n : Nat) : 0 ≤ octantAngle b m n ∧ octantAngle b m n ≤ 90000 := by
  have hentry : atanRom b (octantIndex m n) ≤ 45000 := romEntry_le_top hb.atanRom (octantIndex_le m n)
  unfold octantAngle
  split <;> omega

/-- On the x axis the octant angle is 0 (R133). -/
theorem octantAngle_zero_left {n : Nat} (hn : 0 < n) : octantAngle b 0 n = 0 := by
  rw [octantAngle, if_neg (by omega), octantIndex_zero hn, atanRom_zero hb]
  rfl

/-- On the y axis the octant angle is a right angle (R133). -/
theorem octantAngle_zero_right {m : Nat} (hm : 0 < m) : octantAngle b m 0 = 90000 := by
  rw [octantAngle, if_pos hm, octantIndex_comm, octantIndex_zero hm, atanRom_zero hb]
  rfl

/-- On the diagonals the octant angle is half a right angle (R133). -/
theorem octantAngle_self {m : Nat} (hm : 0 < m) : octantAngle b m m = 45000 := by
  rw [octantAngle, if_neg (lt_irrefl m), octantIndex_self hm, atanRom_last hb]
  rfl

/-- Exchanged magnitudes have complementary angles (R134). -/
theorem octantAngle_exchange {m : Nat} (hm : 0 < m) (n : Nat) : octantAngle b m n + octantAngle b n m = 90000 := by
  rcases eq_or_ne m n with rfl | hne
  · rw [octantAngle_self hb hm]
    rfl
  · rw [octantAngle, octantAngle, octantIndex_comm n m]
    split_ifs <;> omega

/-- ATAN2 stays within a half turn (R134). -/
theorem atan2Angle_range (y x : Int) : -180000 ≤ atan2Angle b y x ∧ atan2Angle b y x ≤ 180000 := by
  by_cases h : x = 0 ∧ y = 0
  · obtain ⟨rfl, rfl⟩ := h
    rw [atan2Angle_origin]
    decide
  · have hoctant := octantAngle_range hb y.natAbs x.natAbs
    rw [atan2Angle_of_ne b h]
    split_ifs <;> omega

/-- Negating y negates the angle, but on the negative x axis (R134). -/
theorem atan2Angle_neg {y x : Int} (h : y ≠ 0 ∨ 0 ≤ x) : atan2Angle b (-y) x = -atan2Angle b y x := by
  by_cases h0 : x = 0 ∧ y = 0
  · obtain ⟨rfl, rfl⟩ := h0
    rfl
  · rw [atan2Angle_of_ne b h0, atan2Angle_of_ne b (by omega), Int.natAbs_neg]
    rcases eq_or_ne y 0 with rfl | hy
    · rw [Int.natAbs_zero, octantAngle_zero_left hb (by omega)]
      split_ifs <;> omega
    · split_ifs <;> omega

/-- ATAN2 on the x axis (R133). -/
theorem atan2Angle_x_axis {y x : Int} (hy : y = 0) (hx : x ≠ 0) : atan2Angle b y x = if 0 ≤ x then 0 else 180000 := by
  subst hy
  rw [atan2Angle_of_ne b (by omega), Int.natAbs_zero, octantAngle_zero_left hb (by omega)]
  rfl

/-- ATAN2 on the y axis (R133). -/
theorem atan2Angle_y_axis {y x : Int} (hx : x = 0) (hy : y ≠ 0) :
    atan2Angle b y x = if 0 ≤ y then 90000 else -90000 := by
  subst hx
  rw [atan2Angle_of_ne b (by omega), Int.natAbs_zero, octantAngle_zero_right hb (by omega)]
  rfl

/-- ATAN2 on the diagonal of equal signs (R133). -/
theorem atan2Angle_diagonal {y x : Int} (h : x = y) (hx : x ≠ 0) :
    atan2Angle b y x = if 0 ≤ x then 45000 else -135000 := by
  subst h
  rw [atan2Angle_of_ne b (by omega), octantAngle_self hb (by omega)]
  split_ifs <;> rfl

/-- ATAN2 on the diagonal of opposite signs (R133). -/
theorem atan2Angle_antidiagonal {y x : Int} (h : x = -y) (hx : x ≠ 0) :
    atan2Angle b y x = if 0 ≤ x then -45000 else 135000 := by
  subst h
  rw [atan2Angle_of_ne b (by omega), Int.natAbs_neg, octantAngle_self hb (by omega)]
  split_ifs <;> omega

end Octant

/-- ATAN2 answers with the angle in RESULT, read as signed (R131). -/
theorem atan2_result {s t : State} (hb : BuildValid s.build) (h : exec .atan2 s = .next t) :
    t.result.toInt = atan2Angle s.build (argInt s 0) (argInt s 1) := by
  obtain ⟨hlo, hhi⟩ := atan2Angle_range hb (argInt s 0) (argInt s 1)
  rw [exec_atan2] at h
  cases h
  exact signedWord_toInt (by omega) (by omega)

/-- Settles O30: the two axes and the diagonals, each with the signs of its half. -/
theorem atan2OnAxesAndDiagonals : Obligations.Atan2OnAxesAndDiagonals := by
  intro s hb
  refine ⟨_, exec_atan2 s, ?_⟩
  rw [atan2_result hb (exec_atan2 s)]
  refine ⟨fun ⟨hx, hy⟩ => if_pos ⟨hx, hy⟩, fun ⟨hy, hx⟩ => ?_, fun ⟨hy, hx⟩ => ?_, fun ⟨hx, hy⟩ => ?_,
    fun ⟨hx, hy⟩ => ?_, fun ⟨heq, hx⟩ => ?_, fun ⟨heq, hx⟩ => ?_, fun ⟨heq, hx⟩ => ?_, fun ⟨heq, hx⟩ => ?_⟩
  · exact (atan2Angle_x_axis hb hy hx.ne').trans (if_pos hx.le)
  · exact (atan2Angle_x_axis hb hy hx.ne).trans (if_neg hx.not_ge)
  · exact (atan2Angle_y_axis hb hx hy.ne').trans (if_pos hy.le)
  · exact (atan2Angle_y_axis hb hx hy.ne).trans (if_neg hy.not_ge)
  · exact (atan2Angle_diagonal hb heq hx.ne').trans (if_pos hx.le)
  · exact (atan2Angle_diagonal hb heq hx.ne).trans (if_neg hx.not_ge)
  · exact (atan2Angle_antidiagonal hb heq hx.ne').trans (if_pos hx.le)
  · exact (atan2Angle_antidiagonal hb heq hx.ne).trans (if_neg hx.not_ge)

/-- Settles O31: the range, the oddness and the complement are those of the octant angle in its quadrant. -/
theorem atan2RangeAndSymmetry : Obligations.Atan2RangeAndSymmetry := by
  refine ⟨fun s hb => ⟨_, exec_atan2 s, ?_⟩, fun s s' t t' hb hb' hy hx h ht ht' => ?_,
    fun s s' t t' hb hb' hy hx hpos hpos' ht ht' => ?_⟩
  · rw [atan2_result hb (exec_atan2 s)]
    exact atan2Angle_range hb _ _
  · have hx : argInt s' 1 = argInt s 1 := congrArg BitVec.toInt hx
    have hy : argInt s' 0 = -argInt s 0 := hy
    rw [atan2_result hb ht, atan2_result (hb' ▸ hb) ht', hb', hx, hy]
    exact atan2Angle_neg hb h
  · have hx : argInt s' 1 = argInt s 0 := congrArg BitVec.toInt hx
    have hy : argInt s' 0 = argInt s 1 := congrArg BitVec.toInt hy
    have hpos : 0 < argInt s 0 := hpos
    have hpos' : 0 < argInt s 1 := hpos'
    rw [atan2_result hb ht, atan2_result (hb' ▸ hb) ht', hb', hx, hy, atan2Angle_of_ne _ (by omega),
      atan2Angle_of_ne _ (by omega), if_pos hpos'.le, if_pos hpos.le, if_pos hpos.le, if_pos hpos'.le]
    exact octantAngle_exchange hb (by omega) _

/-! ### ASIN -/

/-- The table index of ASIN from the two magnitudes, at most the last one (R135). -/
def asinIndex (o h : Nat) : Nat := if h = 0 then 1000 else min ((o * 1000 + h / 2) / h) 1000

theorem asinRatio_toNat (o h : Int) : (asinRatio o h).toNat = asinIndex o.natAbs h.natAbs := by
  unfold asinRatio asinIndex
  simp only [Int.natAbs_eq_zero]
  split
  · rfl
  · rw [← ratio_nat]
    simp only [Config.mult, Nat.cast_ofNat]
    omega

theorem asinIndex_le (o h : Nat) : asinIndex o h ≤ 1000 := by
  unfold asinIndex
  split
  · exact le_rfl
  · exact min_le_right ..

/-- Outside the domain the index is the last one (R135, R136). -/
theorem asinIndex_clamped {o h : Nat} (hle : h ≤ o) : asinIndex o h = 1000 := by
  unfold asinIndex
  split
  · rfl
  · next hne =>
    refine min_eq_right ((Nat.le_div_iff_mul_le (Nat.pos_of_ne_zero hne)).2 ?_)
    omega

/-- A ratio under half a thousandth rounds to the first index (R136). -/
theorem asinIndex_small {o h : Nat} (hlt : o * 2000 < h) : asinIndex o h = 0 := by
  replace hlt : o * 1000 * 2 < h := (Nat.mul_assoc o 1000 2).trans_lt hlt
  have hzero : (o * 1000 + h / 2) / h = 0 := Nat.div_eq_of_lt (by omega)
  rw [asinIndex, if_neg (show h ≠ 0 by omega), hzero]
  rfl

/-- The sign of ASIN times the entry; the sign is 0 for a zero operand `opp` (R135). -/
theorem asinAngle_eq (b : Config.Build) (o h : Int) :
    asinAngle b o h = asinSign o h * asinRom b (asinIndex o.natAbs h.natAbs) := by
  rw [asinAngle, asinRatio_toNat]
  split
  · next ho =>
    subst ho
    simp [asinSign]
  · rfl

theorem asinSign_neg_left (o h : Int) : asinSign (-o) h = -asinSign o h := by
  unfold asinSign
  split <;> simp

theorem asinSign_neg_right (o : Int) {h : Int} (hne : h ≠ 0) : asinSign o (-h) = -asinSign o h := by
  simp [asinSign, hne]

theorem asinSign_range (o h : Int) : -1 ≤ asinSign o h ∧ asinSign o h ≤ 1 := by
  unfold asinSign
  rcases Int.sign_trichotomy o with ho | ho | ho <;> rcases Int.sign_trichotomy h with hh | hh | hh <;>
    simp [ho, hh] <;> split <;> decide

/-- Negating `opp` negates the angle (R136). -/
theorem asinAngle_neg_left (b : Config.Build) (o h : Int) : asinAngle b (-o) h = -asinAngle b o h := by
  rw [asinAngle_eq, asinAngle_eq, asinSign_neg_left, Int.natAbs_neg, Int.neg_mul]

/-- Negating a non-zero `hyp` negates the angle (R136). -/
theorem asinAngle_neg_right (b : Config.Build) (o : Int) {h : Int} (hne : h ≠ 0) :
    asinAngle b o (-h) = -asinAngle b o h := by
  rw [asinAngle_eq, asinAngle_eq, asinSign_neg_right o hne, Int.natAbs_neg, Int.neg_mul]

/-- Outside the domain the angle is a right angle with the sign of the operands (R136). -/
theorem asinAngle_clamped {b : Config.Build} (hb : BuildValid b) {o h : Int} (hle : h.natAbs ≤ o.natAbs) :
    asinAngle b o h = 90000 * asinSign o h := by
  obtain ⟨-, -, hlast, -⟩ := hb.asinRom
  have hentry : asinRom b 1000 = 90000 := hlast
  rw [asinAngle_eq, asinIndex_clamped hle, hentry, Int.mul_comm]
  rfl

/-- A ratio under half a thousandth has the angle 0 (R136). -/
theorem asinAngle_small {b : Config.Build} (hb : BuildValid b) {o h : Int} (hlt : o.natAbs * 2000 < h.natAbs) :
    asinAngle b o h = 0 := by
  obtain ⟨-, hfirst, -⟩ := hb.asinRom
  have hentry : asinRom b 0 = 0 := hfirst
  rw [asinAngle_eq, asinIndex_small hlt, hentry, Int.natCast_zero, Int.mul_zero]

/-- ASIN stays within a quarter turn (R136). -/
theorem asinAngle_range {b : Config.Build} (hb : BuildValid b) (o h : Int) :
    -90000 ≤ asinAngle b o h ∧ asinAngle b o h ≤ 90000 := by
  have hentry : asinRom b (asinIndex o.natAbs h.natAbs) ≤ 90000 := romEntry_le_top hb.asinRom (asinIndex_le ..)
  obtain ⟨hlo, hhi⟩ := asinSign_range o h
  rw [asinAngle_eq]
  obtain hs | hs | hs : asinSign o h = -1 ∨ asinSign o h = 0 ∨ asinSign o h = 1 := by omega
  all_goals
    rw [hs]
    omega

/-- ASIN answers with the angle in RESULT, read as signed (R135). -/
theorem asin_result {s t : State} (hb : BuildValid s.build) (h : exec .asin s = .next t) :
    t.result.toInt = asinAngle s.build (argInt s 0) (argInt s 1) := by
  obtain ⟨hlo, hhi⟩ := asinAngle_range hb (argInt s 0) (argInt s 1)
  rw [exec_asin] at h
  cases h
  exact signedWord_toInt (by omega) (by omega)

/-- Settles O33: the clamped and the vanishing index, and the sign for the mirroring. -/
theorem asinClampsAndMirrors : Obligations.AsinClampsAndMirrors := by
  refine ⟨fun s hb => ⟨_, exec_asin s, ?_⟩,
    fun s s' t t' hb hb' ht ht' => ⟨fun ⟨ho, hh⟩ => ?_, fun ⟨hh, hne, ho⟩ => ?_⟩⟩
  · rw [asin_result hb (exec_asin s)]
    refine ⟨asinAngle_range hb _ _, fun ho => ?_, fun hh => ?_, fun ⟨hpos, hle⟩ => ?_, asinAngle_small hb⟩
    · exact if_pos ho
    · have hh : argInt s 1 = 0 := hh
      rw [hh, asinAngle_clamped hb (Nat.zero_le _), asinSign, if_pos rfl]
      rfl
    · have hne : argInt s 1 ≠ 0 := Int.natAbs_pos.1 hpos
      have hle : (argInt s 1).natAbs ≤ (argInt s 0).natAbs := hle
      rw [asinAngle_clamped hb hle, asinSign, if_neg hne]
      rfl
  · have hh : argInt s' 1 = argInt s 1 := congrArg BitVec.toInt hh
    have ho : argInt s' 0 = -argInt s 0 := ho
    rw [asin_result hb ht, asin_result (hb' ▸ hb) ht', hb', ho, hh, asinAngle_neg_left]
  · have ho : argInt s' 0 = argInt s 0 := congrArg BitVec.toInt ho
    have hh : argInt s' 1 = -argInt s 1 := hh
    have hne : argInt s 1 ≠ 0 := hne
    rw [asin_result hb ht, asin_result (hb' ▸ hb) ht', hb', ho, hh, asinAngle_neg_right _ _ hne]

end Sys2Proof.Proofs
end

section
/-! The wait for a match as a run of TICK steps (60_exceptions.md R221, R222): what it leaves alone, how it counts down
to the match and to the end of the reset sequence, the hold of a CMD write (20_memory.md R69), and the pins after
ESC.START (44_esc.md section 2). -/

namespace Sys2Proof.Proofs

open Sys2Proof.Machine Sys2Proof.Safety Sys2Proof.Laws

/-! ### The wait -/

/-- The state after `k` TICK steps with no match acted on. -/
def waited (k : Nat) (s : State) : State := ticked^[k] s

theorem waited_succ (k : Nat) (s : State) : waited (k + 1) s = ticked (waited k s) := Function.iterate_succ_apply' ..

/-- What one such TICK step leaves alone, the wait leaves alone. -/
theorem waited_field {α : Type} {f : State → α} (h : ∀ s, f (ticked s) = f s) (k : Nat) (s : State) :
    f (waited k s) = f s := by
  induction k with
  | zero => rfl
  | succ k ih => rw [waited_succ, h, ih]

section Frame

variable (k : Nat) (s : State)

@[simp] theorem waited_build : (waited k s).build = s.build := waited_field (f := (·.build)) (by simp) k s
@[simp] theorem waited_width : (waited k s).width = s.width := waited_field (f := (·.width)) (by simp) k s
@[simp] theorem waited_extra : (waited k s).extra = s.extra := waited_field (f := (·.extra)) (by simp) k s
@[simp] theorem waited_safetyArmed : (waited k s).safetyArmed = s.safetyArmed :=
  waited_field (f := (·.safetyArmed)) (by simp) k s
@[simp] theorem waited_channelIndex : (waited k s).channelIndex = s.channelIndex :=
  waited_field (f := (·.channelIndex)) (by simp) k s
@[simp] theorem waited_elapsed : (waited k s).elapsed = s.elapsed := waited_field (f := (·.elapsed)) (by simp) k s
@[simp] theorem waited_seqRun : (waited k s).seqRun = s.seqRun := waited_field (f := (·.seqRun)) (by simp) k s
@[simp] theorem waited_compare : (waited k s).compare = s.compare := waited_field (f := (·.compare)) (by simp) k s
@[simp] theorem waited_escOut : (waited k s).escOut = s.escOut := waited_field (f := (·.escOut)) (by simp) k s
@[simp] theorem waited_inbox : (waited k s).inbox = s.inbox := waited_field (f := (·.inbox)) (by simp) k s

end Frame

/-- More than one tick ahead, the match is not acted on in the next TICK step (R221). -/
theorem not_match_of_lt {s : State} (h : 1 < ticksToMatch s) : ¬ (s.seqRun = true ∧ s.timer + 1 = s.compare) :=
  fun ⟨_, hc⟩ => h.ne' ((timer_succ_eq_iff _ _).1 hc)

/-- Before the match the wait keeps the invariant, and comes nearer to the match and to IDLE tick by tick. -/
theorem waited_counts {s : State} (hs : Inv s) {k : Nat} (hk : k < ticksToMatch s) :
    Inv (waited k s) ∧ ticksToMatch (waited k s) = ticksToMatch s - k ∧
      ticksToIdle (waited k s) = ticksToIdle s - k := by
  induction k with
  | zero => exact ⟨hs, rfl, rfl⟩
  | succ k ih =>
    obtain ⟨hInv, hmatch, hidle⟩ := ih (Nat.lt_of_succ_lt hk)
    obtain ⟨-, -, hidle', -⟩ := engine_ticked hInv
    rw [waited_succ]
    refine ⟨inv_ticked hInv (not_match_of_lt (by omega)), ?_, by omega⟩
    rw [ticksToMatch_ticked (by omega)]
    omega

/-- Before the match a run whose steps are TICKs is the wait. -/
theorem run_waited {s : State} (hs : Inv s) {n : Nat} (hn : n < ticksToMatch s)
    (hstep : ∀ k < n, step (waited k s) = tickStep (waited k s)) :
    Host.Core.run core n s = .next (waited n s) := by
  induction n with
  | zero => rfl
  | succ n ih =>
    have hbefore := ih (Nat.lt_of_succ_lt hn) fun k hk => hstep k (Nat.lt_succ_of_lt hk)
    obtain ⟨-, hmatch, -⟩ := waited_counts hs (Nat.lt_of_succ_lt hn)
    have hlast : step (waited n s) = .next (ticked (waited n s)) :=
      (hstep n n.lt_succ_self).trans (tickStep_quiet (not_match_of_lt (by omega)))
    rw [run_add n 1 hbefore, run_succ 0 hlast, waited_succ]
    rfl

/-- With no input left a run before the match is the wait (log 2). -/
theorem run_waited_of_nil {s : State} (hs : Inv s) (hin : s.inbox = []) {n : Nat}
    (hn : n < ticksToMatch s) : Host.Core.run core n s = .next (waited n s) :=
  run_waited hs hn fun k _ => step_of_nil (by rw [waited_inbox, hin])

/-- One tick before the match it is due (R221). -/
theorem waited_due {s : State} (hs : Inv s) (hr : s.seqRun = true) :
    Inv (waited (ticksToMatch s - 1) s) ∧
      (waited (ticksToMatch s - 1) s).timer + 1 = (waited (ticksToMatch s - 1) s).compare := by
  obtain ⟨hone, -⟩ := hs.matchAhead hr
  obtain ⟨hInv, hmatch, -⟩ := waited_counts hs (Nat.sub_one_lt_of_lt hone)
  exact ⟨hInv, (timer_succ_eq_iff _ _).2 (show ticksToMatch _ = 1 by omega)⟩

/-- With no input left the step of a due match is the transition (R223, log 2). -/
theorem step_of_due {s : State} {w : Word} (hs : Inv s) (hr : s.seqRun = true) (hin : s.inbox = [])
    (hc : s.timer + 1 = s.compare) (hw : s.width[s.channelIndex.toNat]? = some w) :
    step s = .next (transition (timerStep s) w) :=
  (step_of_nil hin).trans (tickStep_of_match hs hr hc hw)

/-- With no input left the run up to the match is the wait and the transition (R222, log 2). -/
theorem run_to_match {s : State} {w : Word} (hs : Inv s) (hr : s.seqRun = true) (hin : s.inbox = [])
    (hw : s.width[s.channelIndex.toNat]? = some w) :
    Host.Core.run core (ticksToMatch s) s =
      .next (transition (timerStep (waited (ticksToMatch s - 1) s)) w) := by
  obtain ⟨hone, -⟩ := hs.matchAhead hr
  obtain ⟨hInv, hc⟩ := waited_due hs hr
  have hwait := run_waited_of_nil hs hin (Nat.sub_one_lt_of_lt hone)
  have hstep := step_of_due hInv (w := w) (by simpa using hr) (by simpa using hin) hc (by simpa using hw)
  calc Host.Core.run core (ticksToMatch s) s
      = Host.Core.run core (ticksToMatch s - 1 + 1) s := by rw [Nat.sub_add_cancel hone]
    _ = Host.Core.run core (0 + 1) (waited (ticksToMatch s - 1) s) := run_add _ 1 hwait
    _ = _ := run_succ 0 hstep

/-- Settles O55: the wait leaves the frame alone, and the transition after it adds the current width. -/
theorem matchFallsExactlyWhenDue : Obligations.MatchFallsExactlyWhenDue := by
  intro s w hs hr hin hw
  obtain ⟨hone, -⟩ := hs.matchAhead hr
  obtain ⟨hInv, hc⟩ := waited_due hs hr
  refine ⟨hone, fun k hk => ⟨_, run_waited_of_nil hs hin hk, ?_⟩, _, run_to_match hs hr hin hw, ?_, ?_, ?_, ?_⟩
  · simp [hr]
  · simp
  · simpa using hc
  · simp
  · rw [elapsed_transition hInv (by simpa using hr) (by simpa using hw), waited_elapsed]

/-! ### The hold of a CMD write -/

/-- The phases of the engine in the order they come, with the pins and the ticks that are left in each (R183, R227). -/
theorem engine_phases {s : State} (hp : EnginePins s) :
    (s.seqPhase = .settle ∧ s.srData = false ∧ s.srClk = false ∧ 3 * s.build.tPad < ticksToIdle s ∧
      ticksToIdle s ≤ s.build.tSettle + 3 * s.build.tPad) ∨
    (s.seqPhase = .pad1 ∧ s.srData = true ∧ s.srClk = false ∧ 2 * s.build.tPad < ticksToIdle s ∧
      ticksToIdle s ≤ 3 * s.build.tPad) ∨
    (s.seqPhase = .pad2 ∧ s.srData = true ∧ s.srClk = true ∧ s.build.tPad < ticksToIdle s ∧
      ticksToIdle s ≤ 2 * s.build.tPad) ∨
    (s.seqPhase = .pad3 ∧ s.srData = true ∧ s.srClk = false ∧ 0 < ticksToIdle s ∧
      ticksToIdle s ≤ s.build.tPad) ∨
    (s.seqPhase = .idle ∧ s.srData = false ∧ s.srClk = false ∧ ticksToIdle s = 0) := by
  unfold EnginePins at hp
  unfold ticksToIdle
  cases hph : s.seqPhase <;> rw [hph] at hp <;> obtain ⟨hdata, hclk, hwait⟩ := hp <;> simp [hdata, hclk] <;> omega

/-- The engine is busy exactly while there are ticks left to IDLE, and there are never more than the whole sequence
has (R227). -/
theorem busy_iff_ticksToIdle {s : State} (hp : EnginePins s) :
    (s.seqPhase ≠ .idle ↔ 0 < ticksToIdle s) ∧ ticksToIdle s ≤ s.build.tSettle + 3 * s.build.tPad := by
  rcases engine_phases hp with ⟨h, -, -, hlo, hhi⟩ | ⟨h, -, -, hlo, hhi⟩ | ⟨h, -, -, hlo, hhi⟩ | ⟨h, -, -, hlo, hhi⟩ |
    ⟨h, -, -, hzero⟩ <;> simp [h] <;> omega

/-- Settles O12: the wait ends in IDLE after `ticksToIdle` ticks, before the match, and the write is held until then. -/
theorem busyHoldsCommandWritesForABoundedTime : Obligations.BusyHoldsCommandWritesForABoundedTime := by
  refine ⟨fun s w rest h hb => ⟨step_of_held h hb, fun hs => ?_⟩, fun _ _ _ => step_read, fun _ _ _ _ ha h =>
    step_write_arg h ha⟩
  obtain ⟨hbusy, hmax⟩ := busy_iff_ticksToIdle hs.pins
  obtain ⟨hr, hfirst⟩ := hs.engineFirst (decide_eq_true hb)
  have hphase (k : Nat) (hk : k ≤ ticksToIdle s) : (waited k s).seqPhase ≠ .idle ↔ k < ticksToIdle s := by
    obtain ⟨hInv, -, hidle⟩ := waited_counts hs (hk.trans_lt hfirst)
    rw [(busy_iff_ticksToIdle hInv.pins).1, hidle, Nat.sub_pos_iff_lt]
  have hrun (n : Nat) (hn : n ≤ ticksToIdle s) : Host.Core.run core n s = .next (waited n s) :=
    run_waited hs (hn.trans_lt hfirst) fun k hk =>
      step_of_held ((waited_inbox k s).trans h) ((hphase k (hk.le.trans hn)).2 (hk.trans_le hn))
  have hend : (waited (ticksToIdle s) s).seqPhase = .idle :=
    not_not.1 fun hne => ((hphase _ le_rfl).1 hne).false
  exact ⟨ticksToIdle s, hbusy.1 hb, hmax,
    fun k hk => ⟨_, hrun k hk.le, (hphase k hk.le).2 hk, waited_inbox k s⟩,
    _, hrun _ le_rfl, hend, waited_inbox _ s, step_write_cmd ((waited_inbox _ s).trans h) hend⟩

/-! ### The pins after ESC.START -/

/-- SR_RST is low in SETTLE and has the level of `safety_armed` after it (R183, R228). -/
def LineFollowsArmed (s : State) : Prop := s.srRst = if s.seqPhase = .settle then false else s.safetyArmed

/-- The action of SETTLE raises the low line exactly if armed; the later actions leave it (R228 to R231). -/
theorem lineFollowsArmed_phaseAction {s : State} (h : LineFollowsArmed s) : LineFollowsArmed (phaseAction s) := by
  unfold LineFollowsArmed at h ⊢
  cases hp : s.seqPhase with
  | idle => rwa [phaseAction, hp]
  | settle =>
    rw [phaseAction_of_settle hp]
    simp [h, hp]
  | pad1 =>
    rw [phaseAction_of_pad1 hp]
    simpa [hp] using h
  | pad2 =>
    rw [phaseAction_of_pad2 hp]
    simpa [hp] using h
  | pad3 =>
    rw [phaseAction_of_pad3 hp]
    simpa [hp] using h

theorem lineFollowsArmed_ticked {s : State} (h : LineFollowsArmed s) : LineFollowsArmed (ticked s) := by
  rcases engineStep_cases (timerStep s) with ⟨-, he⟩ | ⟨-, -, he⟩ | ⟨-, -, he⟩ <;> rw [ticked, he]
  · exact h
  · exact h
  · exact lineFollowsArmed_phaseAction h

theorem lineFollowsArmed_waited {s : State} (h : LineFollowsArmed s) (k : Nat) : LineFollowsArmed (waited k s) := by
  induction k with
  | zero => exact h
  | succ k ih =>
    rw [waited_succ]
    exact lineFollowsArmed_ticked ih

/-- ESC.START enters SETTLE with the line low (R181). -/
theorem lineFollowsArmed_startFrame (s : State) : LineFollowsArmed (startFrame s) := (if_pos rfl).symm

/-- The pins in each tick of the wait after ESC.START, up to the first match (R183, R227). -/
theorem pins_after_start {s : State} (hs : Inv s) (hi : s.seqPhase = .idle) {n : Nat} (hn : n < s.build.leadTicks) :
    let t := waited n (startFrame s)
    let p := s.build.tPad
    let e := s.build.tSettle
    (n < e → t.srRst = false ∧ t.srData = false ∧ t.srClk = false ∧ t.seqPhase ≠ .idle) ∧
    (e ≤ n ∧ n < e + p → t.srRst = s.safetyArmed ∧ t.srData = true ∧ t.srClk = false ∧ t.seqPhase ≠ .idle) ∧
    (e + p ≤ n ∧ n < e + 2 * p → t.srRst = s.safetyArmed ∧ t.srData = true ∧ t.srClk = true ∧ t.seqPhase ≠ .idle) ∧
    (e + 2 * p ≤ n ∧ n < e + 3 * p → t.srRst = s.safetyArmed ∧ t.srData = true ∧ t.srClk = false ∧ t.seqPhase ≠ .idle) ∧
    (e + 3 * p ≤ n → t.srRst = s.safetyArmed ∧ t.srData = false ∧ t.srClk = false ∧ t.seqPhase = .idle) := by
  intro t p e
  obtain ⟨hInv, -, hidle⟩ := waited_counts (inv_startFrame hs hi) (k := n) (by rwa [ticksToMatch_startFrame hs.build])
  have hline : LineFollowsArmed t := lineFollowsArmed_waited (lineFollowsArmed_startFrame s) n
  have harmed : t.safetyArmed = s.safetyArmed := by simp [t]
  have hleft : ticksToIdle t = e + 3 * p - n := hidle
  have hbuild : t.build = s.build := by simp [t]
  have hphases := engine_phases hInv.pins
  simp only [show waited n (startFrame s) = t from rfl, hbuild, hleft] at hphases
  rcases hphases with ⟨hph, hdata, hclk, hlo, hhi⟩ | ⟨hph, hdata, hclk, hlo, hhi⟩ | ⟨hph, hdata, hclk, hlo, hhi⟩ |
    ⟨hph, hdata, hclk, hlo, hhi⟩ | ⟨hph, hdata, hclk, hzero⟩
  all_goals
    simp only [LineFollowsArmed, hph, harmed, reduceCtorEq, if_true, if_false] at hline
    simp [hline, hdata, hclk, hph]
    omega

/-- Settles O40: `pins_after_start` before the first match; the match toggles ESC_OUT and leaves the other pins. -/
theorem escStartPinSequence : Obligations.EscStartPinSequence := by
  intro s s0 hs hi hin h n hn
  rw [exec_escStart] at h
  cases h
  have hInv := inv_startFrame hs hi
  have hahead := ticksToMatch_startFrame hs.build
  rcases Nat.lt_or_eq_of_le hn with hlt | rfl
  · obtain ⟨h1, h2, h3, h4, h5⟩ := pins_after_start hs hi hlt
    refine ⟨_, run_waited_of_nil hInv hin (by rwa [hahead]), h1, h2, h3, h4, h5, fun _ => ?_, fun h => absurd h hlt.ne⟩
    simp
  · obtain ⟨hlead, -⟩ := hs.build.leadTicks
    obtain ⟨-, -, -, -, h5⟩ := pins_after_start hs hi (n := s.build.leadTicks - 1) (by omega)
    have hrun := run_to_match hInv rfl hin (w := s.width[0]) rfl
    rw [hahead] at hrun
    refine ⟨_, hrun, fun h => ?_, fun h => ?_, fun h => ?_, fun h => ?_, fun _ => ?_, fun h => ?_, fun _ => ?_⟩
    · omega
    · omega
    · omega
    · omega
    · simpa using h5 (by omega)
    · omega
    · simp

end Sys2Proof.Proofs
end

section
/-! The length of a frame (44_esc.md section 8): the matches of a frame in which nothing is changed, one after the
other, each a channel's width after the one before it. -/

namespace Sys2Proof.Proofs

open Sys2Proof.Machine Sys2Proof.Safety Sys2Proof.Laws

/-! ### The widths of a frame's matches -/

/-- The width that match number `m` of a frame adds, counted from 0: the channels in order, then the last one again. -/
def matchWidth (s : State) (m : Nat) : Nat := (s.width.toList.map BitVec.toNat).getD (min m (activeChannels s - 1)) 0

/-- The last channel comes again (R223). -/
theorem matchWidth_of_ge {s : State} {m : Nat} (h : activeChannels s - 1 ≤ m) :
    matchWidth s m = matchWidth s (activeChannels s - 1) := by
  rw [matchWidth, matchWidth, min_self, Nat.min_eq_right h]

/-- What `elapsed` is after `m` matches of a frame (R32, R223). -/
def ticksAfterMatches (s : State) (m : Nat) : Nat :=
  ((activeWidths s).take m).sum + (m - activeChannels s) * matchWidth s (activeChannels s - 1)

theorem ticksAfterMatches_zero (s : State) : ticksAfterMatches s 0 = 0 := by
  simp [ticksAfterMatches]

theorem activeChannels_pos (s : State) : 0 < activeChannels s := Nat.add_pos_left (by decide) _

/-- There is a width for each active channel (R30, R44 item 3). -/
theorem activeChannels_le {s : State} (hx : s.extra.toNat ≤ 4) : activeChannels s ≤ 8 := Nat.add_le_add_left hx 4

theorem activeWidths_length_eq {s : State} (hx : s.extra.toNat ≤ 4) : (activeWidths s).length = activeChannels s := by
  simpa [activeWidths] using activeChannels_le hx

/-- Every match adds its width. -/
theorem ticksAfterMatches_succ {s : State} (hx : s.extra.toNat ≤ 4) (m : Nat) :
    ticksAfterMatches s (m + 1) = ticksAfterMatches s m + matchWidth s m := by
  have hlen := activeWidths_length_eq hx
  unfold ticksAfterMatches
  rcases Nat.lt_or_ge m (activeChannels s) with hm | hm
  · have hwidth : (activeWidths s)[m]'(hlen ▸ hm) = matchWidth s m := by
      have hm8 : m < 8 := hm.trans_le (activeChannels_le hx)
      simp [activeWidths, matchWidth, Nat.min_eq_left (Nat.le_sub_one_of_lt hm), hm8]
    rw [List.sum_take_succ _ _ (hlen ▸ hm), hwidth, Nat.sub_eq_zero_of_le hm, Nat.sub_eq_zero_of_le hm.le]
    omega
  · rw [List.take_of_length_le (hlen.trans_le hm), List.take_of_length_le (hlen.trans_le (Nat.le_succ_of_le hm)),
      matchWidth_of_ge ((Nat.sub_le ..).trans hm), Nat.succ_sub hm, Nat.succ_mul]
    omega

/-- Past the active channels every match adds the last width again. -/
theorem ticksAfterMatches_repeat {s : State} (hx : s.extra.toNat ≤ 4) (j : Nat) :
    ticksAfterMatches s (activeChannels s + j) = totalWidth s + j * matchWidth s (activeChannels s - 1) := by
  rw [ticksAfterMatches, List.take_of_length_le (by rw [activeWidths_length_eq hx]; omega), activeWidths_sum,
    Nat.add_sub_cancel_left]

/-- The current channel of a match has the width of the match. -/
theorem width_of_match {s : State} (hx : s.extra.toNat ≤ 4) {m i : Nat} (hi : i = min m (activeChannels s - 1)) :
    ∃ w : Word, s.width[i]? = some w ∧ w.toNat = matchWidth s m := by
  have hi8 : i < 8 := by
    have := activeChannels_le hx
    have := activeChannels_pos s
    omega
  refine ⟨s.width[i], Vector.getElem?_eq_getElem hi8, ?_⟩
  simp [matchWidth, ← hi, hi8]

/-- A legal width is positive (R44 item 1). -/
theorem matchWidth_pos {s : State} (hs : Inv s) (m : Nat) : 0 < matchWidth s m := by
  obtain ⟨w, hw, hm⟩ := width_of_match hs.extra (m := m) rfl
  obtain ⟨hi, rfl⟩ := Vector.getElem?_eq_some_iff.1 hw
  obtain ⟨hlo, -⟩ := hs.widths ⟨_, hi⟩
  obtain ⟨htick, -⟩ := hs.build.baseTick
  simp only [Fin.getElem_fin] at hlo
  omega

/-! ### From match to match -/

/-- `t` is the state one tick before match number `m` of the frame that ESC.START began in `s`. -/
structure FrameDue (s t : State) (m : Nat) : Prop where
  inv : Inv t
  run : t.seqRun = true
  due : t.timer + 1 = t.compare
  inbox : t.inbox = []
  build : t.build = s.build
  width : t.width = s.width
  extra : t.extra = s.extra
  index : t.channelIndex.toNat = min m (activeChannels s - 1)
  elapsed : t.elapsed.toNat = ticksAfterMatches s m
  escOut : t.escOut = if m % 2 = 1 then !s.escOut else s.escOut

/-- ESC.START's first match is due LEAD_TICKS later (R181). -/
theorem frameDue_start {s : State} (hs : Inv s) (hi : s.seqPhase = .idle) (hin : s.inbox = []) :
    Host.Core.run core (s.build.leadTicks - 1) (startFrame s) = .next (waited (s.build.leadTicks - 1) (startFrame s)) ∧
      FrameDue s (waited (s.build.leadTicks - 1) (startFrame s)) 0 := by
  have hInv := inv_startFrame hs hi
  have hahead := ticksToMatch_startFrame hs.build
  obtain ⟨hlead, -⟩ := hs.build.leadTicks
  obtain ⟨hdueInv, hdue⟩ := waited_due hInv rfl
  rw [hahead] at hdueInv hdue
  exact ⟨run_waited_of_nil hInv hin (by omega),
    { inv := hdueInv
      run := by simp
      due := hdue
      inbox := by simpa using hin
      build := by simp
      width := by simp
      extra := by simp
      index := by simp
      elapsed := by simp [ticksAfterMatches_zero]
      escOut := by simp }⟩

section FrameDue

variable {s t : State} {m : Nat} (h : FrameDue s t m)

include h

theorem FrameDue.activeChannels_eq : 4 + t.extra.toNat = activeChannels s := by
  rw [h.extra]
  rfl

theorem FrameDue.extra_le : s.extra.toNat ≤ 4 := h.extra ▸ h.inv.extra

/-- The width that the match adds, as the transition reads it. -/
theorem FrameDue.current_width : ∃ w : Word, t.width[t.channelIndex.toNat]? = some w ∧ w.toNat = matchWidth s m := by
  rw [h.width]
  exact width_of_match h.extra_le h.index

/-- The match brings `elapsed` to its next value. -/
theorem FrameDue.elapsed_match {w : Word} (hw : t.width[t.channelIndex.toNat]? = some w)
    (hm : w.toNat = matchWidth s m) :
    (transition (timerStep t) w).elapsed.toNat = ticksAfterMatches s (m + 1) := by
  rw [elapsed_transition h.inv h.run hw, h.elapsed, hm, ticksAfterMatches_succ h.extra_le]

/-- The three outcomes of the match, by its number and the widths so far (R223, R224). -/
theorem FrameDue.outcomes {w : Word} (hw : t.width[t.channelIndex.toNat]? = some w) (hm : w.toNat = matchWidth s m) :
    ((m + 1 < activeChannels s ∨ ticksAfterMatches s (m + 1) ≤ s.build.frameTicks) ∧
      (transition (timerStep t) w).seqRun = true ∧
      (transition (timerStep t) w).channelIndex.toNat = min (m + 1) (activeChannels s - 1)) ∨
    (activeChannels s ≤ m + 1 ∧ s.build.frameTicks < ticksAfterMatches s (m + 1) ∧
      (transition (timerStep t) w).doneFlag = true ∧ (transition (timerStep t) w).seqRun = false ∧
      (transition (timerStep t) w).channelIndex.toNat = activeChannels s) := by
  have hpos := activeChannels_pos s
  have hchannels := h.activeChannels_eq
  have hindex := h.index
  have htotal : ticksAfterMatches s (m + 1) = t.elapsed.toNat + w.toNat := by
    rw [ticksAfterMatches_succ h.extra_le, h.elapsed, hm]
  rw [htotal, ← h.build]
  rcases match_outcomes h.inv h.run h.due hw with ⟨hlt, hidx, -, hrun⟩ | ⟨hge, hover, hidx, hdone, hrun⟩ |
    ⟨hge, hle, hidx, -, hrun⟩
  · exact .inl ⟨.inl (by omega), hrun, by omega⟩
  · exact .inr ⟨by omega, hover, hdone, hrun, by omega⟩
  · exact .inl ⟨.inr hle, hrun, by rw [hidx]; omega⟩

/-- The match toggles ESC_OUT once more. -/
theorem FrameDue.escOut_match (w : Word) : (transition (timerStep t) w).escOut =
    if (m + 1) % 2 = 1 then !s.escOut else s.escOut := by
  rw [transition_escOut, timerStep_escOut, h.escOut]
  rcases Nat.mod_two_eq_zero_or_one m with hm | hm
  · rw [if_neg (by omega), if_pos (by omega)]
  · rw [if_pos hm, if_neg (by omega), Bool.not_not]

/-- If the frame goes on, the next match is due after the width of this one. -/
theorem FrameDue.next (hgo : m + 1 < activeChannels s ∨ ticksAfterMatches s (m + 1) ≤ s.build.frameTicks) :
    ∃ u, Host.Core.run core (matchWidth s m) t = .next u ∧ FrameDue s u (m + 1) := by
  obtain ⟨w, hw, hm⟩ := h.current_width
  obtain ⟨-, hrun, hindex⟩ := (h.outcomes hw hm).resolve_right fun ⟨hge, hover, _⟩ => by omega
  have helapsed := h.elapsed_match hw hm
  have hout := h.escOut_match w
  have hInv := inv_transition h.inv h.run h.due hw
  have hstep := step_of_due h.inv h.run h.inbox h.due hw
  obtain ⟨u, hu⟩ : ∃ u, u = transition (timerStep t) w := ⟨_, rfl⟩
  have hahead : ticksToMatch u = matchWidth s m := by rw [hu, ticksToMatch_transition h.due, hm]
  have hin : u.inbox = [] := by simpa [hu] using h.inbox
  have hbuild : u.build = s.build := by simpa [hu] using h.build
  have hwidth : u.width = s.width := by simpa [hu] using h.width
  have hextra : u.extra = s.extra := by simpa [hu] using h.extra
  rw [← hu] at hrun hindex helapsed hout hInv hstep
  obtain ⟨hone, -⟩ := hInv.matchAhead hrun
  obtain ⟨hdueInv, hdue⟩ := waited_due hInv hrun
  refine ⟨waited (ticksToMatch u - 1) u, ?_,
    { inv := hdueInv
      run := by simpa using hrun
      due := hdue
      inbox := by simpa using hin
      build := by simpa using hbuild
      width := by simpa using hwidth
      extra := by simpa using hextra
      index := by simpa using hindex
      elapsed := by simpa using helapsed
      escOut := by simpa using hout }⟩
  calc Host.Core.run core (matchWidth s m) t
      = Host.Core.run core (ticksToMatch u - 1 + 1) t := by rw [Nat.sub_add_cancel hone, hahead]
    _ = _ := run_succ _ hstep
    _ = _ := run_waited_of_nil hInv hin (Nat.sub_one_lt_of_lt hone)

end FrameDue

/-- As long as the frame goes on, match `m` is due after LEAD_TICKS and the widths of the matches before it. -/
theorem frameDue_after {s : State} (hs : Inv s) (hi : s.seqPhase = .idle) (hin : s.inbox = []) (m : Nat)
    (hgo : ∀ k < m, k + 1 < activeChannels s ∨ ticksAfterMatches s (k + 1) ≤ s.build.frameTicks) :
    ∃ t, Host.Core.run core (s.build.leadTicks - 1 + ticksAfterMatches s m) (startFrame s) = .next t ∧
      FrameDue s t m := by
  induction m with
  | zero =>
    rw [ticksAfterMatches_zero]
    exact ⟨_, frameDue_start hs hi hin⟩
  | succ m ih =>
    obtain ⟨t, hrun, ht⟩ := ih fun k hk => hgo k (Nat.lt_succ_of_lt hk)
    obtain ⟨u, hnext, hu⟩ := ht.next (hgo m m.lt_succ_self)
    rw [ticksAfterMatches_succ hs.extra, ← Nat.add_assoc, run_add _ _ hrun]
    exact ⟨u, hnext, hu⟩

/-! ### The last match -/

/-- How often the last width is added beyond the active channels until the budget is exceeded. -/
def repeats (budget total last : Nat) : Nat := if budget < total then 0 else (budget - total) / last + 1

/-- `repeats` exceeds the budget, and one time less does not (R224). -/
theorem repeats_spec (budget total : Nat) {last : Nat} (hlast : 0 < last) :
    budget < total + repeats budget total last * last ∧
      ∀ i < repeats budget total last, total + i * last ≤ budget := by
  unfold repeats
  split
  · next hlt => exact ⟨by omega, fun i hi => absurd hi (Nat.not_lt_zero i)⟩
  · next hle =>
    have hupper : budget - total < last * ((budget - total) / last + 1) := Nat.lt_mul_div_succ _ hlast
    refine ⟨?_, fun i hi => ?_⟩
    · rw [Nat.mul_comm]
      omega
    · have hfits : i * last ≤ budget - total := (Nat.le_div_iff_mul_le hlast).1 (Nat.le_of_lt_succ hi)
      omega

/-- The number of matches of a frame (44_esc.md section 8). -/
def frameMatches (s : State) : Nat :=
  activeChannels s + repeats s.build.frameTicks (totalWidth s) (matchWidth s (activeChannels s - 1))

/-- The frame goes on before its last match (R223, R224). -/
theorem goes_on_before_last {s : State} (hs : Inv s) {k : Nat} (hk : k + 1 < frameMatches s) :
    k + 1 < activeChannels s ∨ ticksAfterMatches s (k + 1) ≤ s.build.frameTicks := by
  obtain ⟨-, hwithin⟩ := repeats_spec s.build.frameTicks (totalWidth s) (matchWidth_pos hs (activeChannels s - 1))
  rcases Nat.lt_or_ge (k + 1) (activeChannels s) with hlt | hge
  · exact .inl hlt
  · obtain ⟨i, hi⟩ := Nat.exists_eq_add_of_le hge
    rw [hi, ticksAfterMatches_repeat hs.extra]
    exact .inr (hwithin i (by unfold frameMatches at hk; omega))

/-- The last match is past the budget (R224). -/
theorem over_budget_after_last {s : State} (hs : Inv s) :
    s.build.frameTicks < ticksAfterMatches s (frameMatches s) := by
  rw [frameMatches, ticksAfterMatches_repeat hs.extra]
  exact (repeats_spec _ _ (matchWidth_pos hs _)).1

/-- The last match adds the width of the last channel. -/
theorem ticksAfterMatches_last {s : State} (hs : Inv s) {m : Nat} (hm : m + 1 = frameMatches s) :
    ticksAfterMatches s m =
      ticksAfterMatches s (frameMatches s) - matchWidth s (activeChannels s - 1) := by
  have hlast : activeChannels s - 1 ≤ m := by
    unfold frameMatches at hm
    omega
  rw [← hm, ticksAfterMatches_succ hs.extra, matchWidth_of_ge hlast, Nat.add_sub_cancel]

/-- The frame stops in its last match and runs until the tick before it (44_esc.md section 8). -/
theorem frame_ends {s : State} (hs : Inv s) (hi : s.seqPhase = .idle) (hin : s.inbox = []) :
    let last := s.build.leadTicks +
      (ticksAfterMatches s (frameMatches s) - matchWidth s (activeChannels s - 1))
    (∃ t, Host.Core.run core last (startFrame s) = .next t ∧ t.doneFlag = true ∧ t.seqRun = false ∧
      t.elapsed.toNat = ticksAfterMatches s (frameMatches s) ∧ t.channelIndex.toNat = activeChannels s ∧
      t.escOut = if frameMatches s % 2 = 1 then !s.escOut else s.escOut) ∧
    ∃ t, Host.Core.run core (last - 1) (startFrame s) = .next t ∧ t.doneFlag = false ∧ t.seqRun = true := by
  intro last
  have hcount : activeChannels s ≤ frameMatches s := Nat.le_add_right ..
  obtain ⟨m, hm⟩ : ∃ m, frameMatches s = m + 1 :=
    Nat.exists_eq_succ_of_ne_zero ((activeChannels_pos s).trans_le hcount).ne'
  have hover := over_budget_after_last hs
  obtain ⟨hlead, -⟩ := hs.build.leadTicks
  have hlast : last = s.build.leadTicks - 1 + ticksAfterMatches s m + 1 := by
    rw [ticksAfterMatches_last hs hm.symm]
    omega
  obtain ⟨t, hrun, ht⟩ := frameDue_after hs hi hin m fun k hk => goes_on_before_last hs (by omega)
  obtain ⟨w, hw, hwm⟩ := ht.current_width
  have helapsed := ht.elapsed_match hw hwm
  have hout := ht.escOut_match w
  have houtcome := ht.outcomes hw hwm
  rw [hm] at hcount hover
  rw [hlast, hm]
  obtain ⟨-, -, hdone, hstop, hindex⟩ := houtcome.resolve_left fun ⟨hgo, _⟩ => by omega
  refine ⟨⟨_, ?_, hdone, hstop, helapsed, hindex, hout⟩, t, hrun, ht.inv.runNotDone ht.run, ht.run⟩
  rw [run_add _ 1 hrun]
  exact run_succ 0 (step_of_due ht.inv ht.run ht.inbox ht.due hw)

/-- Settles O56: `frame_ends`, with the widths in the words of the statement. -/
theorem frameLengthFollowsTheWidths : Obligations.FrameLengthFollowsTheWidths := by
  intro s s0 hs hi hin h
  rw [exec_escStart] at h
  cases h
  intro n W w F j last
  have hw : matchWidth s (activeChannels s - 1) = w := by
    rw [matchWidth, min_self]
    rfl
  have hcount : frameMatches s = n + j := by
    rw [frameMatches, hw]
    rfl
  have htotal : ticksAfterMatches s (frameMatches s) = W + j * w := by
    rw [frameMatches, ticksAfterMatches_repeat hs.extra, hw]
    rfl
  have hends := frame_ends hs hi hin
  rw [htotal, hw, hcount] at hends
  exact hends

end Sys2Proof.Proofs
end
